-- ==== Sys2Proof/Word.lean ====
section
/-! DEFINITION. The word types of SXF: a byte of the wire, the two halves of a 14-bit pair, and the 14-bit
numbers themselves (spec/00_scope.md R8, spec/20_memory.md R57). Every value of the spec is unsigned. -/

namespace Sys2Proof

/-- A byte on the wire or in a buffer (00_scope R8). -/
abbrev Byte := BitVec 8

/-- A 7-bit quantity: one half of a 14-bit pair, a sequence number, a ring coordinate, a window size (00_scope R8). -/
abbrev Septet := BitVec 7

/-- A 14-bit quantity: a session coordinate, a total, a coalescer key (20_memory R55, R52). -/
abbrev Word14 := BitVec 14

/-- A byte sequence, index 0 first (00_scope R10). -/
abbrev Bytes := List Byte

end Sys2Proof
end

