-- ==== Sys2Proof/Config.lean ====
section
/-! DEFINITION. What an implementation fixes and what the environment answers: the records the tables are made of,
the parameters of spec/00_scope.md R5 and R6, the canonical registry `R0` of
spec/42_registry_router.md R131, and the free values, each an opaque constant without a body. -/

namespace Sys2Proof

/-! ## Records -/

/-- A colour: three channels of 0 to 255 (00_scope R13). -/
structure Color where
  r : Byte
  g : Byte
  b : Byte
deriving DecidableEq, Repr, Inhabited

/-- Black is (0, 0, 0) (00_scope R13). -/
def Color.black : Color := ⟨0, 0, 0⟩

/-- One cell of the grid buffer; the index is its position, no stored field (10_state R24). -/
structure GridCell where
  r : Byte
  g : Byte
  b : Byte
  occ : Bool
deriving DecidableEq, Repr, Inhabited

/-- The reset value of a cell, and what a pad that shows no session cell holds (10_state R36, 46_grid_sync R203). -/
def GridCell.black : GridCell := ⟨0, 0, 0, false⟩

/-- The colour of a cell; the occupancy is never rendered (10_state R24). -/
def GridCell.color (c : GridCell) : Color := ⟨c.r, c.g, c.b⟩

/-- The `RingWindow` record, field widths as in the table of 10_state R25. -/
structure RingWindow where
  trackOffset : Word14
  sceneOffset : Word14
  width : Septet
  height : Septet
  totalTracks : Word14
  totalScenes : Word14
  overviewMode : Bool
deriving DecidableEq, Repr, Inhabited

/-- A session cell `(track, scene)`: an address of the SUBS space (20_memory R53, R55). -/
structure CellKey where
  track : Word14
  scene : Word14
deriving DecidableEq, Repr, Inhabited

/-- A subscription handle: a token the block stores and hands back and never interprets (45_ring_tracker R193, D28).
DESIGN CHOICE: the opaque type is represented by a number, of which only equality is ever used (log 6). -/
structure Handle where
  token : Nat
deriving DecidableEq, Repr, Inhabited

/-- The direction of a command (42_registry_router R132). -/
inductive Direction where
  | hostToDevice
  | deviceToHost
  | bidirectional
deriving DecidableEq, Repr

/-- The payload size kind of a command (42_registry_router R132). -/
inductive SizeKind where
  | fixed (n : Nat)
  | variable
  | empty
deriving DecidableEq, Repr

/-- A command descriptor (42_registry_router R132). -/
structure Descriptor where
  id : Byte
  direction : Direction
  size : SizeKind
deriving DecidableEq, Repr

/-! ## The values the spec fixes (00_scope R5, R6) -/

/-- `N_PADS`: cells of the grid buffer. -/
abbrev nPads : Nat := 32

/-- `LEN_MAX`: largest payload length. -/
abbrev lenMax : Nat := 16383

/-- `SEQ_MOD`: sequence modulus; the type `Septet` of the counter is the numbers below it. -/
abbrev seqMod : Nat := 128

/-- `COORD_MAX`: largest offset or total; the type `Word14` is the numbers up to it. -/
abbrev coordMax : Nat := 16383

/-- `CMD_HANDSHAKE`: the one command byte the source fixes (30_encoding R104). -/
abbrev cmdHandshakeByte : Byte := 0x60

/-- `SINGLETON`: the key of the grid slot (D20). -/
abbrev singletonKey : Word14 := 0

/-! ## Parameters -/

/-- A parameter whose one value the spec fixes: a field of the configuration that no configuration can set
otherwise. -/
structure Fixed {α : Type} (v : α) where
deriving DecidableEq, Repr, Inhabited

/-- The value of a fixed parameter; `simp [Fixed.value]` writes it out. -/
abbrev Fixed.value {α : Type} {v : α} (_ : Fixed v) : α := v

/-- The configuration: every parameter of 00_scope R5 and R6 that is data. Fixed before reset and written by no event
(10_state R29); the model carries it in `State` (log 5). The parameters that are functions are the opaque constants at
the end of this file, and the types `Handle`, `Word14` and `Septet` are the parameters that are types or widths. -/
structure Config where
  /-- `N_PADS`. -/
  nPads : Fixed Sys2Proof.nPads
  /-- `GRID_W`, 1 to 127. -/
  gridW : Septet
  /-- `GRID_H`, 1 to 127. -/
  gridH : Septet
  /-- `LEN_MAX`. -/
  lenMax : Fixed Sys2Proof.lenMax
  /-- `SEQ_MOD`. -/
  seqMod : Fixed Sys2Proof.seqMod
  /-- `COORD_MAX`. -/
  coordMax : Fixed Sys2Proof.coordMax
  /-- `T_RETRY` in milliseconds: nominal, no rule depends on it (60_exceptions R231). -/
  tRetryMs : Nat
  /-- `FLUSH_RATE` per second, configurable: nominal, no rule depends on it (60_exceptions R232); the gate of FLUSH is
  `tFlushMin`. -/
  flushRate : Nat
  /-- `DIRCHECK`. -/
  dirCheck : Bool
  /-- `CMD_HANDSHAKE`. -/
  cmdHandshake : Fixed cmdHandshakeByte
  /-- `TAG`: the payload of the handshake frame the block sends. -/
  tag : Bytes
  /-- `REGISTRY`: a partial function from command byte to descriptor, as the list of its entries. -/
  registry : List Descriptor
  /-- `CMD_HANDSHAKE_REPLY`. -/
  cmdHandshakeReply : Byte
  /-- `CMD_DISCONNECT`. -/
  cmdDisconnect : Byte
  /-- `CMD_GRID`. -/
  cmdGrid : Byte
  /-- `CMD_VOLUME`. -/
  cmdVolume : Byte
  /-- `HSREPLY_PAYLOAD`. -/
  hsReplyPayload : Bytes
  /-- `N_SLOTS`: capacity of the coalescer. -/
  nSlots : Nat
  /-- `N_PRIO`: number of priority tiers. -/
  nPrio : Nat
  /-- `PRIO_GRID`: tier of the grid frame. -/
  prioGrid : Byte
  /-- `SINGLETON`: the key of the grid slot. -/
  singleton : Fixed singletonKey
  /-- `T_FLUSH_MIN`, in microseconds; 0 turns the gate off. -/
  tFlushMin : Nat
  /-- `REARM_ON_TEARDOWN`. -/
  rearmOnTeardown : Bool
deriving DecidableEq, Repr

/-- The canonical registry `R0` (42_registry_router R131). -/
def registryR0 : List Descriptor :=
  [ ⟨0x60, .bidirectional, .fixed 2⟩
  , ⟨0x61, .hostToDevice, .empty⟩
  , ⟨0x62, .hostToDevice, .empty⟩
  , ⟨0x63, .hostToDevice, .fixed 192⟩
  , ⟨0x21, .bidirectional, .variable⟩ ]

/-- The default of every parameter (00_scope R5, R6; 95_test_vectors, preamble). -/
def Config.default : Config where
  nPads := ⟨⟩
  gridW := 8
  gridH := 4
  lenMax := ⟨⟩
  seqMod := ⟨⟩
  coordMax := ⟨⟩
  tRetryMs := 1000
  flushRate := 60
  dirCheck := false
  cmdHandshake := ⟨⟩
  tag := [0x50, 0x43]
  registry := registryR0
  cmdHandshakeReply := 0x61
  cmdDisconnect := 0x62
  cmdGrid := 0x63
  cmdVolume := 0x21
  hsReplyPayload := []
  nSlots := 64
  nPrio := 4
  prioGrid := 1
  singleton := ⟨⟩
  tFlushMin := 16667
  rearmOnTeardown := false

/-! ## Free values: constants without a body -/

/-- What `blend(c, true)` gives: the source states the function's type and nothing of its values
(46_grid_sync R202, 93 U7; log 7). -/
opaque Config.highlight : Color → Color

/-- Whether a pad's overview region meets the viewport of a window: a parameter under no law
(46_grid_sync R202, 93 U8; log 7). -/
opaque Config.ovIntersects : Nat → RingWindow → Bool

/-- The state source's answer to the `n`-th draw, when that draw is a `GETVALUE` (46_grid_sync R203, 93 U10; log 4). -/
opaque Config.getValueAnswer : Nat → GridCell

/-- The state source's answer to the `n`-th draw, when that draw is a `SUBSCRIBE` (45_ring_tracker R193, 93 U9; log 4). -/
opaque Config.subscribeAnswer : Nat → Handle

end Sys2Proof
end

