-- ==== Sys2Proof/Syntax.lean ====
section
/-! DEFINITION. The instructions of SXF, one constructor for each row of spec/opcode_table.json, and the two forms in
which the environment presents one: an event record at the port (spec/30_encoding.md R90, R91) or a frame from the
transport (spec/30_encoding.md R80). -/

namespace Sys2Proof

/-- The instruction set: the 26 events of 30_encoding R91 with the operand widths of its table, and the 5 wire
commands of 42_registry_router R133 to R137. A wire command's constructor stands for one received frame with that
command byte; header, length, checksum and footer follow from its operands (30_encoding R80). -/
inductive Instr where
  -- ValueCodec
  | enc14 (v : BitVec 16)
  | dec14 (msb lsb : Septet)
  | enccolor24 (r g b : Byte)
  | encascii (text : Bytes) (maxLen : Byte)
  -- FrameCodec
  | fenc (cmd : Byte) (seq : Septet) (payload : Bytes)
  | fdec (buf : Bytes)
  -- CommandRegistry
  | lookup (id : Byte)
  -- HandshakeStateMachine
  | rxframe (buf : Bytes)
  | tickretry
  | teardown
  | linkinit
  -- MessageCoalescer
  | queue (cmd : Byte) (key : Word14) (payload : Bytes) (prio : Byte)
  | flush (now : Nat)
  | forceflush
  -- SessionRingTracker
  | navleft
  | navright
  | navup
  | navdown
  | follow (track scene : Word14)
  | toabs (ringTrack ringScene : Septet)
  | toring (track scene : Word14)
  | settotals (totalTracks totalScenes : Word14)
  | setoverview (on : BitVec 1)
  -- GridStateSynchronizer
  | cellupdate (track scene : Word14) (r g b : Byte) (occ : BitVec 1)
  | render
  | blend (r g b : Byte) (inViewport : BitVec 1)
  -- wire commands
  | cmdHandshake (seq : Septet) (payload : Bytes)
  | cmdHandshakeReply (seq : Septet) (payload : Bytes)
  | cmdDisconnect (seq : Septet) (payload : Bytes)
  | cmdGrid (seq : Septet) (payload : Bytes)
  | cmdVolume (seq : Septet) (payload : Bytes)
deriving DecidableEq, Repr

/-! ## What is presented -/

/-- One operand of an event record (30_encoding R91): a field of a stated width with its value, a finite byte
sequence, or a time. -/
inductive Operand where
  | field (width value : Nat)
  | bytes (b : Bytes)
  | time (t : Nat)
deriving DecidableEq, Repr

/-- The kind of an operand in the opcode map (30_encoding R91). -/
inductive OperandKind where
  | field (width : Nat)
  | bytes
  | time
deriving DecidableEq, Repr

/-- An event record: an 8-bit opcode and that opcode's operands in the order of the opcode map. The port defines no
serialisation of the record (30_encoding R90), and neither does the model (log 1). -/
structure EventRecord where
  op : Byte
  operands : List Operand
deriving DecidableEq, Repr

/-- What the environment presents: an event record at the port, or a buffer from the transport's one `onFrame`
callback (20_memory R58, 60_exceptions R237). -/
inductive PortItem where
  | event (r : EventRecord)
  | frame (buf : Bytes)
deriving DecidableEq, Repr

/-! ## Decoded frames and their errors -/

/-- A decoded frame (41_framecodec R121, step 6). -/
structure Frame where
  command : Byte
  sequence : Byte
  payloadLength : Nat
  payload : Bytes
  checksum : Byte
deriving DecidableEq, Repr

/-- The five frame errors (60_exceptions R216). -/
inductive FrameError where
  | truncated
  | badHeader
  | badFooter
  | lengthMismatch
  | badChecksum
deriving DecidableEq, Repr

/-- The conditions of the `STATUS` output (60_exceptions R215); `UnknownCommand` carries no code and is none (R219). -/
inductive StatusCode where
  | truncated
  | badHeader
  | badFooter
  | lengthMismatch
  | badChecksum
  | payloadShapeError
  | wrongDirection
  | rangeClamped
  | oversize
deriving DecidableEq, Repr

/-- What `FDEC` finds in a buffer (41_framecodec R121): a frame, one of the five errors, or a buffer that is neither,
because a byte in a 7-bit position has bit 7 set (30_encoding R101). -/
inductive FdecAnswer where
  | frame (f : Frame)
  | error (e : FrameError)
  | notSevenBit
deriving DecidableEq, Repr

end Sys2Proof
end

