-- ==== Sys2Proof/Machine/Flags.lean ====
section
/-! DEFINITION. SXF has no condition codes (spec/10_state.md R32). What its rules test and report stands here: the
7-bit test, the checksum, the codes of the `STATUS` output, the router's two checks and the flush gate. -/

namespace Sys2Proof

/-- Bit 7 of a byte is clear: the byte is at most 0x7F (00_scope R8). -/
def sevenBit (b : Byte) : Bool := decide (b.toNat ≤ 127)

/-- Every byte of a sequence is at most 0x7F (30_encoding R85). -/
def allSevenBit (p : Bytes) : Bool := p.all sevenBit

/-- `fold_xor(p)`: the exclusive-or of all bytes, 0 for the empty sequence (00_scope R9). -/
def foldXor (p : Bytes) : Byte := p.foldr (fun b acc => b ^^^ acc) 0

/-- `CHECKSUM = (CMD ^ SEQ ^ fold_xor(PAYLOAD)) & 0x7F`; header, length and footer stay out (30_encoding R86). -/
def checksum (cmd seq : Byte) (payload : Bytes) : Byte := (cmd ^^^ seq ^^^ foldXor payload) &&& 0x7F

/-- The number each condition carries on the `STATUS` output (60_exceptions R215). -/
def StatusCode.code : StatusCode → Byte
  | .truncated => 0x01
  | .badHeader => 0x02
  | .badFooter => 0x03
  | .lengthMismatch => 0x04
  | .badChecksum => 0x05
  | .payloadShapeError => 0x10
  | .wrongDirection => 0x11
  | .rangeClamped => 0x20
  | .oversize => 0x21

/-- The `STATUS` condition of a frame error (60_exceptions R215). -/
def FrameError.status : FrameError → StatusCode
  | .truncated => .truncated
  | .badHeader => .badHeader
  | .badFooter => .badFooter
  | .lengthMismatch => .lengthMismatch
  | .badChecksum => .badChecksum

/-- Router check (a): the entry is `Fixed(n)` and the payload length is not `n`; `Empty` and `Variable` check nothing
(42_registry_router R138). -/
def shapeMismatch (d : Option Descriptor) (len : Nat) : Bool :=
  match d with
  | some ⟨_, _, .fixed n⟩ => decide (len ≠ n)
  | _ => false

/-- Router check (b), where direction checking is on: the entry says `HostToDevice` (42_registry_router R138). -/
def wrongWay (d : Option Descriptor) : Bool :=
  match d with
  | some ⟨_, .hostToDevice, _⟩ => true
  | _ => false

/-- `REGISTRY(id)`: the entry for a command byte, or none (42_registry_router R130). -/
def registryAt (registry : List Descriptor) (id : Byte) : Option Descriptor :=
  registry.find? (fun d => d.id == id)

/-- The rate gate of `FLUSH`: no timed flush has passed yet, or `T_FLUSH_MIN` has gone by since (44_coalescer R167). -/
def flushDue (lastFlush : Option Nat) (tFlushMin now : Nat) : Bool :=
  match lastFlush with
  | none => true
  | some t => decide (t + tFlushMin ≤ now)

end Sys2Proof
end

