-- ==== Sys2Proof/Machine/Operands.lean ====
section
/-! DEFINITION. Operand assembly: the 14-bit pair, the colour, the ASCII field and the frame, each way
(spec/30_encoding.md R93 to R97, spec/40_valuecodec.md, spec/41_framecodec.md), and the coordinate forms of the ring
window (spec/20_memory.md R56, spec/45_ring_tracker.md R180, R181, R186). All of it is free of state. -/

namespace Sys2Proof

/-! ## 14-bit pairs, colours, text -/

/-- A 7-bit quantity as a byte: zero-extended (30_encoding R93). -/
def septetByte (v : Septet) : Byte := v.setWidth 8

/-- `enc14`: the pair (msb, lsb) of a value, clamped to 16383 first (40_valuecodec R110). -/
def enc14 (v : Nat) : Septet × Septet :=
  let v' := min v lenMax
  (BitVec.ofNat 7 ((v' >>> 7) &&& 0x7F), BitVec.ofNat 7 (v' &&& 0x7F))

/-- The pair of a value as two wire bytes, most significant first (20_memory R57). -/
def enc14Bytes (v : Nat) : Bytes := [septetByte (enc14 v).1, septetByte (enc14 v).2]

/-- `dec14`: the value `(msb << 7) | lsb` (40_valuecodec R111). -/
def dec14 (msb lsb : Septet) : Word14 := (msb.setWidth 14 <<< 7) ||| lsb.setWidth 14

/-- The 24-bit colour: three pairs in the order red, green, blue (40_valuecodec R112). -/
def encColor24 (c : Color) : Bytes :=
  enc14Bytes c.r.toNat ++ enc14Bytes c.g.toNat ++ enc14Bytes c.b.toNat

/-- The ASCII field: a length byte, then that many text bytes masked to 7 bits (40_valuecodec R113). -/
def asciiField (text : Bytes) (maxLen : Byte) : Bytes :=
  let m := min maxLen.toNat 127
  let n := min text.length m
  BitVec.ofNat 8 n :: (text.take n).map (fun b => b &&& 0x7F)

/-! ## The wire frame -/

/-- `HDR0` to `HDR3` (30_encoding R81). -/
def frameHeader : Bytes := [0xF0, 0x7F, 0x00, 0x7F]

/-- `FOOTER` (30_encoding R87). -/
def frameFooter : Byte := 0xF7

/-- The frame of a command, a sequence number and a payload: the body of `FENC` once its checks have passed
(41_framecodec R120, 30_encoding R80). -/
def frameBytes (cmd : Byte) (seq : Septet) (payload : Bytes) : Bytes :=
  frameHeader ++ [cmd, septetByte seq] ++ enc14Bytes payload.length ++ payload
    ++ [checksum cmd (septetByte seq) payload, frameFooter]

/-- The byte of a buffer at an offset; only ever asked for at an offset inside the buffer. -/
def byteAt (buf : Bytes) (i : Nat) : Byte := buf.getD i 0

/-- The 14-bit length field at offsets 6 and 7 (30_encoding R84). -/
def lengthField (buf : Bytes) : Nat :=
  (dec14 ((byteAt buf 6).setWidth 7) ((byteAt buf 7).setWidth 7)).toNat

/-- `FDEC`: the checks of 41_framecodec R121 in its order. DEDUCED: a byte with bit 7 set is found where the rule first
reads its position, so a buffer that an earlier check rejects is rejected by that check's name: the sequence and
length bytes before the length test, the payload and checksum bytes before the checksum test (30_encoding R81, R87,
R98, R101; 20_memory R61; log 8). -/
def fdec (buf : Bytes) : FdecAnswer :=
  if buf.length < 10 then .error .truncated
  else if buf.take 4 ≠ frameHeader then .error .badHeader
  else if byteAt buf (buf.length - 1) ≠ frameFooter then .error .badFooter
  else if !allSevenBit ((buf.drop 5).take 3) then .notSevenBit
  else if buf.length - 10 ≠ lengthField buf then .error .lengthMismatch
  else if !allSevenBit ((buf.drop 8).take (lengthField buf + 1)) then .notSevenBit
  else
    let payload := (buf.drop 8).take (lengthField buf)
    let ck := checksum (byteAt buf 4) (byteAt buf 5) payload
    if byteAt buf (8 + lengthField buf) ≠ ck then .error .badChecksum
    else .frame ⟨byteAt buf 4, byteAt buf 5, lengthField buf, payload, ck⟩

/-! ## Coordinates -/

/-- `clampOff(off, total, size) = clamp(off, 0, max(0, total - size))`, in the integers (45_ring_tracker R180). -/
def clampOff (off total size : Int) : Int := max 0 (min off (max 0 (total - size)))

/-- `normalize(w with {trackOffset: t, sceneOffset: s})`: both axes are clamped whichever moved
(45_ring_tracker R180). -/
def normalizeAt (w : RingWindow) (t s : Int) : RingWindow :=
  { w with
    trackOffset := BitVec.ofNat 14 (clampOff t w.totalTracks.toNat w.width.toNat).toNat
    sceneOffset := BitVec.ofNat 14 (clampOff s w.totalScenes.toNat w.height.toNat).toNat }

/-- The offset that brings `pos` back into a window of `size` at `off` by the least move (45_ring_tracker R186). -/
def followOffset (pos off size : Nat) : Int :=
  if pos < off then pos
  else if off + size ≤ pos then (pos : Int) - size + 1
  else off

/-- `off <= pos < off + size`: one axis of the window's rectangle (45_ring_tracker R188). -/
def inSpan (pos off size : Nat) : Bool := decide (off ≤ pos) && decide (pos < off + size)

/-- The visible set of a window, on coordinates: in the rectangle and in the session extent (45_ring_tracker R181). -/
def showsAt (w : RingWindow) (track scene : Nat) : Bool :=
  inSpan track w.trackOffset.toNat w.width.toNat && decide (track < w.totalTracks.toNat)
    && inSpan scene w.sceneOffset.toNat w.height.toNat && decide (scene < w.totalScenes.toNat)

/-- A session cell is in the visible set (45_ring_tracker R181). -/
def isVisible (w : RingWindow) (c : CellKey) : Bool := showsAt w c.track.toNat c.scene.toNat

/-- The coordinates of one axis of the visible set, ascending: `off <= x < min(off + size, total)`. -/
def visibleSpan (off size total : Nat) : List Nat :=
  ((List.range size).map (fun i => off + i)).filter (fun x => decide (x < total))

/-- The visible set as a list, in ascending scene, then ascending track (45_ring_tracker R181). -/
def visibleCells (w : RingWindow) : List CellKey :=
  (visibleSpan w.sceneOffset.toNat w.height.toNat w.totalScenes.toNat).flatMap fun s =>
    (visibleSpan w.trackOffset.toNat w.width.toNat w.totalTracks.toNat).map fun t =>
      ⟨BitVec.ofNat 14 t, BitVec.ofNat 14 s⟩

/-- The place of a cell in (scene, track) order (45_ring_tracker R181). -/
def CellKey.rank (c : CellKey) : Nat := c.scene.toNat * 16384 + c.track.toNat

/-- The pad index of a ring position: row-major over the configured width (20_memory R56). -/
def padIndex (gridW : Septet) (ringTrack ringScene : Nat) : Nat := ringScene * gridW.toNat + ringTrack

/-- `blend(c, inViewport)`: any total function with `blend(c, false) = c` is of this form (46_grid_sync R202). -/
def blendColor (c : Color) (inViewport : Bool) : Color := if inViewport then Config.highlight c else c

end Sys2Proof
end

