-- ==== Sys2Proof/WellFormed.lean ====
section
/-! DEFINITION. What a well-formed instruction and a well-formed configuration are. Operand widths are in the types of
`Instr`, so only the payload of a wire command is left to check (spec/30_encoding.md R84, R85); a configuration must
lie in the ranges of spec/00_scope.md R5 and R6. -/

namespace Sys2Proof

/-- A frame's payload: at most 16383 bytes, each at most 0x7F (30_encoding R84, R85). -/
def payloadOk (p : Bytes) : Bool := decide (p.length ≤ lenMax) && allSevenBit p

/-- An instruction is well formed: the payload of a wire command can stand in a frame. Every operand the port can
present is well formed; what a rule does with an operand outside its legal range is the rule's own (30_encoding R91). -/
def Instr.wf : Instr → Bool
  | .enc14 _ => true
  | .dec14 _ _ => true
  | .enccolor24 _ _ _ => true
  | .encascii _ _ => true
  | .fenc _ _ _ => true
  | .fdec _ => true
  | .lookup _ => true
  | .rxframe _ => true
  | .tickretry => true
  | .teardown => true
  | .linkinit => true
  | .queue _ _ _ _ => true
  | .flush _ => true
  | .forceflush => true
  | .navleft => true
  | .navright => true
  | .navup => true
  | .navdown => true
  | .follow _ _ => true
  | .toabs _ _ => true
  | .toring _ _ => true
  | .settotals _ _ => true
  | .setoverview _ => true
  | .cellupdate _ _ _ _ _ _ => true
  | .render => true
  | .blend _ _ _ _ => true
  | .cmdHandshake _ p => payloadOk p
  | .cmdHandshakeReply _ p => payloadOk p
  | .cmdDisconnect _ p => payloadOk p
  | .cmdGrid _ p => payloadOk p
  | .cmdVolume _ p => payloadOk p

/-- A payload length in a descriptor is 0 to 16383 (42_registry_router R132). -/
def SizeKind.wf : SizeKind → Bool
  | .fixed n => decide (n ≤ lenMax)
  | .variable => true
  | .empty => true

/-- The grid geometry: each side at least 1 and at most 127 (by its type), at most 32 pads in all (00_scope R5). -/
def Config.geometryOk (c : Config) : Bool :=
  decide (1 ≤ c.gridW.toNat) && decide (1 ≤ c.gridH.toNat) && decide (c.gridW.toNat * c.gridH.toNat ≤ c.nPads.value)

/-- The registry is a partial function with legal sizes (42_registry_router R132). -/
def Config.registryOk (c : Config) : Bool :=
  decide ((c.registry.map (·.id)).Nodup) && c.registry.all (fun d => d.size.wf)

/-- The payloads the block sends of itself: a two-byte tag and a reply payload, both fit for a frame
(30_encoding R97, 00_scope R6). -/
def Config.payloadsOk (c : Config) : Bool :=
  decide (c.tag.length = 2) && payloadOk c.tag && payloadOk c.hsReplyPayload

/-- The coalescer's parameters: room for a slot, a tier, and the grid's tier among the tiers (00_scope R6). -/
def Config.coalescerOk (c : Config) : Bool :=
  decide (1 ≤ c.nSlots) && decide (1 ≤ c.nPrio) && decide (c.prioGrid.toNat < c.nPrio)

/-- The five wire commands have five different bytes. The spec does not ask it of a configuration, and nothing but the
round trip of the encoder rests on it (log 10). -/
def Config.commandsDistinct (c : Config) : Bool :=
  decide [c.cmdHandshake.value, c.cmdHandshakeReply, c.cmdDisconnect, c.cmdGrid, c.cmdVolume].Nodup

/-- A configuration is well formed (00_scope R5, R6). -/
def Config.wf (c : Config) : Bool := c.geometryOk && c.registryOk && c.payloadsOk && c.coalescerOk

end Sys2Proof
end

