-- ==== Sys2Proof/Decode.lean ====
section
/-! DEFINITION. Decoding what the environment presents, total on any event record and any buffer, and the encoder
after it. The opcode map is spec/30_encoding.md R91; the wire commands are spec/42_registry_router.md R133 to R137. -/

namespace Sys2Proof

/-! ## Decoding -/

/-- Why an event record is no event of the port. -/
inductive DecodeError where
  /-- The opcode is not in the opcode map (30_encoding R100). -/
  | unknownOpcode (op : Byte)
  /-- The operands are not the ones the opcode map lists for this opcode: such a record cannot be presented
  (30_encoding R91). -/
  | operandShape (op : Byte)
deriving DecidableEq, Repr

/-- The operand column of the opcode map (30_encoding R91), by opcode; none for an opcode outside the map. -/
def operandLayout (op : Nat) : Option (List OperandKind) :=
  match op with
  | 0x01 => some [.field 16]
  | 0x02 => some [.field 7, .field 7]
  | 0x03 => some [.field 8, .field 8, .field 8]
  | 0x04 => some [.bytes, .field 8]
  | 0x10 => some [.field 8, .field 7, .bytes]
  | 0x11 => some [.bytes]
  | 0x18 => some [.field 8]
  | 0x20 => some [.bytes]
  | 0x21 => some []
  | 0x22 => some []
  | 0x23 => some []
  | 0x30 => some [.field 8, .field 14, .bytes, .field 8]
  | 0x31 => some [.time]
  | 0x32 => some []
  | 0x40 => some []
  | 0x41 => some []
  | 0x42 => some []
  | 0x43 => some []
  | 0x44 => some [.field 14, .field 14]
  | 0x45 => some [.field 7, .field 7]
  | 0x46 => some [.field 14, .field 14]
  | 0x47 => some [.field 14, .field 14]
  | 0x48 => some [.field 1]
  | 0x50 => some [.field 14, .field 14, .field 8, .field 8, .field 8, .field 1]
  | 0x51 => some []
  | 0x52 => some [.field 8, .field 8, .field 8, .field 1]
  | _ => none

/-- Read an operand as a field of exactly `w` bits (30_encoding R91). -/
def Operand.asField (w : Nat) : Operand → Option (BitVec w)
  | .field width value => if width = w ∧ value < 2 ^ w then some (BitVec.ofNat w value) else none
  | .bytes _ => none
  | .time _ => none

/-- Read an operand as a byte sequence (30_encoding R91). -/
def Operand.asBytes : Operand → Option Bytes
  | .bytes b => some b
  | .field _ _ => none
  | .time _ => none

/-- Read an operand as a time (30_encoding R91). -/
def Operand.asTime : Operand → Option Nat
  | .time t => some t
  | .field _ _ => none
  | .bytes _ => none

/-- The event of an opcode and its operands, each read at the width the opcode map gives it (30_encoding R91). -/
def eventInstr (op : Nat) (operands : List Operand) : Option Instr :=
  match op, operands with
  | 0x01, [v] => do return .enc14 (← v.asField 16)
  | 0x02, [msb, lsb] => do return .dec14 (← msb.asField 7) (← lsb.asField 7)
  | 0x03, [r, g, b] => do return .enccolor24 (← r.asField 8) (← g.asField 8) (← b.asField 8)
  | 0x04, [text, maxLen] => do return .encascii (← text.asBytes) (← maxLen.asField 8)
  | 0x10, [cmd, seq, payload] => do return .fenc (← cmd.asField 8) (← seq.asField 7) (← payload.asBytes)
  | 0x11, [buf] => do return .fdec (← buf.asBytes)
  | 0x18, [id] => do return .lookup (← id.asField 8)
  | 0x20, [buf] => do return .rxframe (← buf.asBytes)
  | 0x21, [] => some .tickretry
  | 0x22, [] => some .teardown
  | 0x23, [] => some .linkinit
  | 0x30, [cmd, key, payload, prio] => do
    return .queue (← cmd.asField 8) (← key.asField 14) (← payload.asBytes) (← prio.asField 8)
  | 0x31, [now] => do return .flush (← now.asTime)
  | 0x32, [] => some .forceflush
  | 0x40, [] => some .navleft
  | 0x41, [] => some .navright
  | 0x42, [] => some .navup
  | 0x43, [] => some .navdown
  | 0x44, [track, scene] => do return .follow (← track.asField 14) (← scene.asField 14)
  | 0x45, [ringTrack, ringScene] => do return .toabs (← ringTrack.asField 7) (← ringScene.asField 7)
  | 0x46, [track, scene] => do return .toring (← track.asField 14) (← scene.asField 14)
  | 0x47, [tracks, scenes] => do return .settotals (← tracks.asField 14) (← scenes.asField 14)
  | 0x48, [on] => do return .setoverview (← on.asField 1)
  | 0x50, [track, scene, r, g, b, occ] => do
    return .cellupdate (← track.asField 14) (← scene.asField 14) (← r.asField 8) (← g.asField 8) (← b.asField 8)
      (← occ.asField 1)
  | 0x51, [] => some .render
  | 0x52, [r, g, b, v] => do return .blend (← r.asField 8) (← g.asField 8) (← b.asField 8) (← v.asField 1)
  | _, _ => none

/-- Decode an event record. An opcode outside the map has no meaning (30_encoding R100); a record whose operands are
not the map's cannot be presented (30_encoding R91). -/
def decodeEvent (r : EventRecord) : Except DecodeError Instr :=
  match eventInstr r.op.toNat r.operands with
  | some i => .ok i
  | none => if (operandLayout r.op.toNat).isSome then .error (.operandShape r.op) else .error (.unknownOpcode r.op)

/-- The wire command a command byte stands for under a configuration, with its sequence number and payload
(42_registry_router R133 to R137, 30_encoding R104). Two commands with one byte are one frame, and it is read as the
first of them (log 10). -/
def wireInstr (c : Config) (cmd : Byte) (seq : Septet) (payload : Bytes) : Option Instr :=
  if cmd = c.cmdHandshake.value then some (.cmdHandshake seq payload)
  else if cmd = c.cmdHandshakeReply then some (.cmdHandshakeReply seq payload)
  else if cmd = c.cmdDisconnect then some (.cmdDisconnect seq payload)
  else if cmd = c.cmdGrid then some (.cmdGrid seq payload)
  else if cmd = c.cmdVolume then some (.cmdVolume seq payload)
  else none

/-- Decode a buffer from the transport: a frame of one of the five commands is that command; every other buffer is the
event `RXFRAME` on it, whose rule says what happens (20_memory R58, 60_exceptions R237; log 10). -/
def decodeFrame (c : Config) (buf : Bytes) : Instr :=
  match fdec buf with
  | .frame f => (wireInstr c f.command (f.sequence.setWidth 7) f.payload).getD (.rxframe buf)
  | .error _ => .rxframe buf
  | .notSevenBit => .rxframe buf

/-- Decode what the environment presents, under the command bytes of a configuration. -/
def decode (c : Config) : PortItem → Except DecodeError Instr
  | .event r => decodeEvent r
  | .frame buf => .ok (decodeFrame c buf)

/-! ## Encoding -/

/-- A field operand of the width of its value. -/
def fieldOf {w : Nat} (v : BitVec w) : Operand := .field w v.toNat

/-- An event record from its opcode and operands. -/
def eventItem (op : Byte) (operands : List Operand) : PortItem := .event ⟨op, operands⟩

/-- What the environment presents for an instruction: the event record of 30_encoding R91, or, for a wire command, the
frame of 30_encoding R80 with the command byte of the configuration. -/
def encode (c : Config) : Instr → PortItem
  | .enc14 v => eventItem 0x01 [fieldOf v]
  | .dec14 msb lsb => eventItem 0x02 [fieldOf msb, fieldOf lsb]
  | .enccolor24 r g b => eventItem 0x03 [fieldOf r, fieldOf g, fieldOf b]
  | .encascii text maxLen => eventItem 0x04 [.bytes text, fieldOf maxLen]
  | .fenc cmd seq payload => eventItem 0x10 [fieldOf cmd, fieldOf seq, .bytes payload]
  | .fdec buf => eventItem 0x11 [.bytes buf]
  | .lookup id => eventItem 0x18 [fieldOf id]
  | .rxframe buf => eventItem 0x20 [.bytes buf]
  | .tickretry => eventItem 0x21 []
  | .teardown => eventItem 0x22 []
  | .linkinit => eventItem 0x23 []
  | .queue cmd key payload prio => eventItem 0x30 [fieldOf cmd, fieldOf key, .bytes payload, fieldOf prio]
  | .flush now => eventItem 0x31 [.time now]
  | .forceflush => eventItem 0x32 []
  | .navleft => eventItem 0x40 []
  | .navright => eventItem 0x41 []
  | .navup => eventItem 0x42 []
  | .navdown => eventItem 0x43 []
  | .follow track scene => eventItem 0x44 [fieldOf track, fieldOf scene]
  | .toabs ringTrack ringScene => eventItem 0x45 [fieldOf ringTrack, fieldOf ringScene]
  | .toring track scene => eventItem 0x46 [fieldOf track, fieldOf scene]
  | .settotals tracks scenes => eventItem 0x47 [fieldOf tracks, fieldOf scenes]
  | .setoverview on => eventItem 0x48 [fieldOf on]
  | .cellupdate track scene r g b occ =>
    eventItem 0x50 [fieldOf track, fieldOf scene, fieldOf r, fieldOf g, fieldOf b, fieldOf occ]
  | .render => eventItem 0x51 []
  | .blend r g b v => eventItem 0x52 [fieldOf r, fieldOf g, fieldOf b, fieldOf v]
  | .cmdHandshake seq payload => .frame (frameBytes c.cmdHandshake.value seq payload)
  | .cmdHandshakeReply seq payload => .frame (frameBytes c.cmdHandshakeReply seq payload)
  | .cmdDisconnect seq payload => .frame (frameBytes c.cmdDisconnect seq payload)
  | .cmdGrid seq payload => .frame (frameBytes c.cmdGrid seq payload)
  | .cmdVolume seq payload => .frame (frameBytes c.cmdVolume seq payload)

/-! ## The opcode table's numbering -/

/-- An operand of a kind with every bit 0. -/
def OperandKind.zero : OperandKind → Operand
  | .field w => .field w 0
  | .bytes => .bytes []
  | .time => .time 0

/-- The payload length of a wire command whose payload bits are all 0: the row's `Fixed(n)`, else 0
(42_registry_router R131). -/
def zeroPayloadLength (cmd : Nat) : Nat :=
  match cmd with
  | 0x60 => 2
  | 0x63 => 192
  | _ => 0

/-- What is presented, under the configuration `c`, for a row of the opcode table whose bits are `w`, of which the table
numbers `nbits`: the low eight bits are an event's opcode (its operands are zeros), or, where the opcode map has no such
event, the number the canonical table `R0` gives a wire command (its frame has the command byte of `c`, sequence number
0 and a payload of zeros). DESIGN CHOICE: the number 0x21, which the table gives to both TICKRETRY and CMD_VOLUME, is
read as the event (log 11). -/
def tableItem (c : Config) (nbits w : Nat) : PortItem :=
  let op := w % 2 ^ (min nbits 8)
  match operandLayout op with
  | some kinds => eventItem (BitVec.ofNat 8 op) (kinds.map OperandKind.zero)
  | none =>
    match wireInstr Config.default (BitVec.ofNat 8 op) 0 (List.replicate (zeroPayloadLength op) 0) with
    | some i => encode c i
    | none => eventItem (BitVec.ofNat 8 op) []

/-- The instruction the decoder reads from a row of the opcode table whose bits are `w`, under the canonical table `R0`,
whose numbers the opcode table's are. -/
def decodeTableWord (nbits w : Nat) : Option Instr :=
  match decode Config.default (tableItem Config.default nbits w) with
  | .ok i => some i
  | .error _ => none

end Sys2Proof
end

