-- ==== Sys2Proof/Machine/State.lean ====
section
/-! DEFINITION. The state of SXF as plain data: the eight elements of spec/10_state.md R20, and the model's own four
fields (`cfg`, `port`, `out`, `draws`; INVENTORY.md, "State"); the output events of spec/10_state.md R33; the reset
state of spec/10_state.md R36; why a step can stop. -/

namespace Sys2Proof.Machine

/-- `conn`, the connection state (10_state R21). -/
inductive Conn where
  | disconnected
  | awaitingReply
  | connected
deriving DecidableEq, Repr

/-- A pending slot of the coalescer (10_state R26). -/
structure Slot where
  cmd : Byte
  key : Word14
  payload : Bytes
  prio : Nat
deriving DecidableEq, Repr

/-- The subscription table: a finite partial map from session cells to handles (10_state R28), as a list of entries.
Its canonical form is `Subs.wf` (log 16). -/
abbrev Subs := List (CellKey × Handle)

/-- What a `RESULT` carries: the return value of a pure operation (10_state R33). -/
inductive ResultValue where
  /-- ENC14: the pair (msb, lsb). -/
  | pair (msb lsb : Septet)
  /-- DEC14: a 14-bit value. -/
  | value (v : Word14)
  /-- ENCCOLOR24, ENCASCII, FENC, RENDER: a byte sequence. -/
  | bytes (b : Bytes)
  /-- FDEC: a frame. -/
  | frame (f : Frame)
  /-- FDEC: a frame error. -/
  | error (e : FrameError)
  /-- LOOKUP: a descriptor or none. -/
  | descriptor (d : Option Descriptor)
  /-- TOABS: a position `(track, scene)`, which may need 15 bits (45_ring_tracker R187). -/
  | position (track scene : Nat)
  /-- TORING: a ring position `(ringTrack, ringScene)` or none (45_ring_tracker R188). -/
  | ring (p : Option (Nat × Nat))
  /-- BLEND: a colour. -/
  | color (c : Color)
deriving DecidableEq, Repr

/-- The nine kinds of output event (10_state R33). -/
inductive Output where
  /-- One complete wire frame handed to the transport. -/
  | tx (bytes : Bytes)
  /-- Ask the state source for notifications of one cell. -/
  | subscribe (cell : CellKey)
  /-- Cancel one subscription. -/
  | unsubscribe (h : Handle)
  /-- Read one cell's colour and occupancy. -/
  | getValue (cell : CellKey)
  /-- The window record changed. -/
  | windowChanged (win : RingWindow)
  /-- The link has just become connected. -/
  | dumpReq
  /-- A valid received frame for its handler. -/
  | dispatch (cmd seq : Byte) (payload : Bytes) (desc : Option Descriptor)
  /-- A report of an error or a clamp. -/
  | status (code : StatusCode)
  /-- The return value of a pure operation. -/
  | result (v : ResultValue)
deriving DecidableEq, Repr

/-- The state of the machine. -/
structure State where
  /-- The connection state (10_state R21). -/
  conn : Conn
  /-- Whether the handshake retry timer is running (10_state R22). -/
  retryArmed : Bool
  /-- The sequence number the next emitted frame carries (10_state R23). -/
  txSeq : Septet
  /-- The grid buffer `G`, 32 cells (10_state R24). -/
  grid : Vector GridCell 32
  /-- The ring window (10_state R25). -/
  win : RingWindow
  /-- The coalescer's pending slots in insertion order (10_state R26). -/
  slots : List Slot
  /-- The time of the last timed flush that passed the gate, in microseconds (10_state R27). -/
  lastFlush : Option Nat
  /-- The subscription table (10_state R28). -/
  subs : Subs
  /-- MODEL: the configuration, which nothing writes (10_state R29; log 5). -/
  cfg : Config
  /-- MODEL: what the environment has presented and the block has not processed, oldest first (20_memory R67; log 2). -/
  port : List PortItem
  /-- MODEL: the output trace, oldest first (10_state R33; log 3). -/
  out : List Output
  /-- MODEL: how many answers have been drawn from the environment (00_scope R11, R18; log 4). -/
  draws : Nat
deriving DecidableEq, Repr

/-- The machine never stops with a fault: no access can fault (20_memory R66), every error ends in a drop or a clamp
(60_exceptions, preamble; R228) and nothing halts the block (70_reset_and_hazards R267). The type has no constructor
(log 19); that is safe, because a refusal is the only stop there is and it has a name of its own. -/
inductive Fault where
deriving DecidableEq, Repr

/-- Why the model has no step for what was presented. Each is the treatment `refuse` of the spec (00_scope R11). All
are safe: nothing is claimed of a machine that is presented with this. -/
inductive Refusal where
  /-- Raised by `exec` for an instruction that has no meaning yet. Safe. -/
  | notModelled (mnemonic : String)
  /-- Raised by `step`: the record at the port is no event of the opcode map (30_encoding R91, R100; 93 U12). Safe. -/
  | noEvent (e : DecodeError)
  /-- Raised by FDEC, RXFRAME and the wire commands: a received buffer has bit 7 set in a 7-bit position
  (30_encoding R101; 93 U1). Safe. -/
  | bufferNotSevenBit
  /-- Raised by FENC and QUEUE: a payload byte of 0x80 or more (41_framecodec R120, 44_coalescer R165; 93 U2). Safe. -/
  | payloadNotSevenBit
  /-- Raised by every event that queues: the slot would be number `N_SLOTS + 1` (44_coalescer R171; 93 U5). Safe. -/
  | coalescerFull
deriving DecidableEq, Repr

/-- The reset value of the window: offsets and totals 0, the configured size, overview off (10_state R36). -/
def resetWindow (c : Config) : RingWindow where
  trackOffset := 0
  sceneOffset := 0
  width := c.gridW
  height := c.gridH
  totalTracks := 0
  totalScenes := 0
  overviewMode := false

/-- The machine right after reset, for a given configuration: the eight elements as 10_state R36 states them; nothing
presented, nothing emitted, nothing drawn (DESIGN CHOICE, logs 2, 3, 4). -/
def State.resetWith (c : Config) : State where
  conn := .disconnected
  retryArmed := true
  txSeq := 0
  grid := Vector.replicate 32 GridCell.black
  win := resetWindow c
  slots := []
  lastFlush := none
  subs := []
  cfg := c
  port := []
  out := []
  draws := 0

/-- The machine right after reset, with the default of every parameter (DESIGN CHOICE, log 5). -/
def State.reset : State := State.resetWith Config.default

end Sys2Proof.Machine
end

