-- ==== Sys2Proof/Machine/Ops.lean ====
section
/-! DEFINITION. The named operations over the state: its updates, the tables, the output trace, the end of an event by
`raise` (this block's whole exception mechanism, spec/60_exceptions.md R228, R229: nothing is saved, control goes
nowhere, and there is nothing to return from), and the internal steps the rules share: SEND, QUEUE, QUEUEGRID,
EMITALL, RELOAD, WINCHANGE, ENTERCONNECTED and the router. -/

namespace Sys2Proof.Machine

/-- The answer of a meaning. -/
abbrev Res := Host.Outcome State Fault Refusal

/-- The number of a connection state, where one is wanted (10_state R21). -/
def Conn.code : Conn → Nat
  | .disconnected => 0
  | .awaitingReply => 1
  | .connected => 2

/-! ## Updates of one element -/

/-- `conn <- c` (10_state R21). -/
def State.putConn (s : State) (c : Conn) : State := { s with conn := c }

/-- `retryArmed <- b` (10_state R22). -/
def State.putRetryArmed (s : State) (b : Bool) : State := { s with retryArmed := b }

/-- `txSeq <- (txSeq + 1) mod 128`: 127 is followed by 0 (10_state R23). -/
def State.nextSeq (s : State) : State := { s with txSeq := s.txSeq + 1 }

/-- `G[p] <- c`; a pad index of 32 or more names no cell (10_state R24). -/
def State.putCell (s : State) (p : Nat) (c : GridCell) : State := { s with grid := s.grid.setIfInBounds p c }

/-- `win <- w` (10_state R25). -/
def State.putWin (s : State) (w : RingWindow) : State := { s with win := w }

/-- `slots <- l` (10_state R26). -/
def State.putSlots (s : State) (l : List Slot) : State := { s with slots := l }

/-- `lastFlush <- some t` (10_state R27). -/
def State.putLastFlush (s : State) (t : Nat) : State := { s with lastFlush := some t }

/-- `subs <- m` (10_state R28). -/
def State.putSubs (s : State) (m : Subs) : State := { s with subs := m }

/-- `emit o`: append an output event to the trace (00_scope R11). -/
def State.emit (s : State) (o : Output) : State := { s with out := s.out ++ [o] }

/-- One more answer has been drawn from the environment (00_scope R11). -/
def State.countDraw (s : State) : State := { s with draws := s.draws + 1 }

/-- The environment's queue without the item being processed (60_exceptions R225). -/
def State.putPort (s : State) (l : List PortItem) : State := { s with port := l }

/-! ## Ending an event -/

/-- `raise`: the event ends with no state change and one `STATUS` (00_scope R11, 60_exceptions R222, R228). -/
def raise (c : StatusCode) (s : State) : Res := .next (s.emit (.status c))

/-- The end of a pure operation: its return value (30_encoding R92). -/
def giveResult (v : ResultValue) (s : State) : Res := .next (s.emit (.result v))

/-- One internal step after another; a refusal of the first refuses the event as a whole (43_handshake R152; log 20). -/
def andThen (r : Res) (f : State → Res) : Res :=
  match r with
  | .next s => f s
  | .fault e => .fault e
  | .refused e => .refused e

/-! ## The subscription table (10_state R28, 20_memory R53) -/

/-- The canonical form: cells strictly rising in (scene, track) order, so at most one entry a cell (log 16). -/
abbrev Subs.wf (m : Subs) : Prop := m.Pairwise (fun a b => a.1.rank < b.1.rank)

/-- `MemRead(SUBS, c)`: the handle of a cell, or none. -/
def Subs.read (m : Subs) (c : CellKey) : Option Handle := (m.find? (fun e => e.1 == c)).map (·.2)

/-- `subs with {c -> h}`. -/
def Subs.write (m : Subs) (c : CellKey) (h : Handle) : Subs :=
  match m with
  | [] => [(c, h)]
  | e :: rest =>
    if e.1.rank < c.rank then e :: Subs.write rest c h
    else if e.1 = c then (c, h) :: rest
    else (c, h) :: e :: rest

/-- `subs without c`. -/
def Subs.erase (m : Subs) (c : CellKey) : Subs := m.filter (fun e => e.1 != c)

/-- `dom(subs)`. -/
def Subs.dom (m : Subs) : List CellKey := m.map (·.1)

/-! ## The slot table (10_state R26, 20_memory R52) -/

/-- Two slots are the same address of the SLOT space: same command and same key (44_coalescer R165). -/
def Slot.sameKey (a b : Slot) : Bool := a.cmd == b.cmd && a.key == b.key

/-- Overwrite the slot of the same address, in its place (44_coalescer R165). -/
def overwriteSlot (x : Slot) : List Slot → List Slot
  | [] => []
  | y :: rest => if y.sameKey x then x :: rest else y :: overwriteSlot x rest

/-- Upsert a slot: an overwrite keeps the position, a new slot goes to the end, and there is no room for slot
`N_SLOTS + 1` (44_coalescer R165, R171; log 13). -/
def upsertSlot (nSlots : Nat) (x : Slot) (l : List Slot) : Option (List Slot) :=
  if l.any (fun y => y.sameKey x) then some (overwriteSlot x l)
  else if nSlots ≤ l.length then none
  else some (l ++ [x])

/-- Put a slot into a list sorted highest tier first, before the slots of its own tier. -/
def insertByPrio (x : Slot) : List Slot → List Slot
  | [] => [x]
  | y :: rest => if y.prio ≤ x.prio then x :: y :: rest else y :: insertByPrio x rest

/-- The order of emission: highest tier first, equal tiers in the order of the slots (44_coalescer R166). -/
def emitOrder : List Slot → List Slot
  | [] => []
  | x :: rest => insertByPrio x (emitOrder rest)

/-! ## Transmission -/

/-- SEND: one frame with the current sequence number, and the counter advances (41_framecodec R125). -/
def send (cmd : Byte) (payload : Bytes) (s : State) : State :=
  s.nextSeq.emit (.tx (frameBytes cmd s.txSeq payload))

/-- EMITALL: the table is cleared and one frame goes out for each slot it held (44_coalescer R166). -/
def emitAll (s : State) : State :=
  (emitOrder s.slots).foldl (fun acc x => send x.cmd x.payload acc) (s.putSlots [])

/-- QUEUE (44_coalescer R165). DEDUCED: the precondition on the payload's bytes is tested before its length (log 18). -/
def queueSlot (cmd : Byte) (key : Word14) (payload : Bytes) (prio : Byte) (s : State) : Res :=
  if !allSevenBit payload then .refused .payloadNotSevenBit
  else if s.cfg.lenMax.value < payload.length then raise .oversize s
  else
    match upsertSlot s.cfg.nSlots ⟨cmd, key, payload, min prio.toNat (s.cfg.nPrio - 1)⟩ s.slots with
    | none => .refused .coalescerFull
    | some l =>
      if s.cfg.nPrio - 1 < prio.toNat then .next ((s.putSlots l).emit (.status .rangeClamped))
      else .next (s.putSlots l)

/-! ## The grid -/

/-- The colour a pad is rendered with: its own, blended in overview mode (46_grid_sync R201). -/
def padColor (s : State) (i : Fin 32) : Color :=
  let c := s.grid[i].color
  if s.win.overviewMode then blendColor c (Config.ovIntersects i.val s.win) else c

/-- `renderFullGrid()`: pads 0 to 31, six bytes a pad (46_grid_sync R201). -/
def renderGrid (s : State) : Bytes := (List.finRange 32).flatMap (fun i => encColor24 (padColor s i))

/-- QUEUEGRID: the whole grid under the one key of the grid command (46_grid_sync R204; log 21). -/
def queueGrid (s : State) : Res := queueSlot s.cfg.cmdGrid s.cfg.singleton.value (renderGrid s) s.cfg.prioGrid s

/-- The session track a pad of the configured grid stands for (46_grid_sync R203). -/
def padTrack (s : State) (p : Nat) : Nat := s.win.trackOffset.toNat + p % s.cfg.gridW.toNat

/-- The session scene a pad of the configured grid stands for (46_grid_sync R203). -/
def padScene (s : State) (p : Nat) : Nat := s.win.sceneOffset.toNat + p / s.cfg.gridW.toNat

/-- A pad shows a cell of the visible set (46_grid_sync R203). The coordinates are compared as numbers, so a position
past 16383 is no cell. -/
def padShowsCell (s : State) (p : Nat) : Bool :=
  decide (p < s.cfg.gridW.toNat * s.cfg.gridH.toNat) && showsAt s.win (padTrack s p) (padScene s p)

/-- The session cell of a pad that shows one. -/
def padCell (s : State) (p : Nat) : CellKey := ⟨BitVec.ofNat 14 (padTrack s p), BitVec.ofNat 14 (padScene s p)⟩

/-- RELOAD of one pad: ask the state source and store its answer, or black (46_grid_sync R203; log 4). -/
def reloadPad (s : State) (p : Nat) : State :=
  if padShowsCell s p then
    ((s.emit (.getValue (padCell s p))).putCell p (Config.getValueAnswer s.draws)).countDraw
  else s.putCell p GridCell.black

/-- RELOAD: every pad in ascending order (46_grid_sync R203). -/
def reload (s : State) : State := (List.range s.cfg.nPads.value).foldl reloadPad s

/-! ## The window -/

/-- A cell leaves the visible set: its handle is given back (45_ring_tracker R191). -/
def unsubscribeCell (s : State) (e : CellKey × Handle) : State :=
  (s.emit (.unsubscribe e.2)).putSubs (s.subs.erase e.1)

/-- A cell enters the visible set: the state source answers with a handle (45_ring_tracker R191; log 4). -/
def subscribeCell (s : State) (c : CellKey) : State :=
  ((s.emit (.subscribe c)).putSubs (s.subs.write c (Config.subscribeAnswer s.draws))).countDraw

/-- The entries whose cells a window does not show, ascending (45_ring_tracker R191, `left`). -/
def leftCells (w : RingWindow) (m : Subs) : Subs := m.filter (fun e => !isVisible w e.1)

/-- The cells a window shows that have no subscription, ascending (45_ring_tracker R191, `entered`). -/
def enteredCells (w : RingWindow) (m : Subs) : List CellKey :=
  (visibleCells w).filter (fun c => !(m.dom.contains c))

/-- The part of WINCHANGE between the window's write and the reload: (a), then (b) (45_ring_tracker R191). -/
def resubscribe (s : State) : State :=
  (enteredCells s.win s.subs).foldl subscribeCell ((leftCells s.win s.subs).foldl unsubscribeCell s)

/-- WINCHANGE: nothing where the record is the same, else the window-change sequence (45_ring_tracker R191). -/
def winChange (w : RingWindow) (s : State) : Res :=
  if w = s.win then .next s
  else queueGrid (reload (resubscribe ((s.putWin w).emit (.windowChanged w))))

/-! ## The link -/

/-- ENTERCONNECTED: the retry timer is cancelled, the reply goes out if asked for, and the state is dumped
(43_handshake R152). -/
def enterConnected (reply : Bool) (s : State) : Res :=
  let s1 := (s.putConn .connected).putRetryArmed false
  let s2 := if reply then send s.cfg.cmdHandshakeReply s.cfg.hsReplyPayload s1 else s1
  andThen (queueGrid (s2.emit .dumpReq)) (fun s3 => .next (emitAll s3))

/-- What a valid frame does to the connection: it connects an unconnected link, with a reply if it is a handshake
(43_handshake R147, R148, R149, R154). -/
def connectOn (f : Frame) (s : State) : Res :=
  if s.conn = .connected then .next s else enterConnected (f.command == s.cfg.cmdHandshake.value) s

/-- The router on a decoded frame, and dispatch after the state machine has acted (42_registry_router R138 to R141). -/
def route (f : Frame) (s : State) : Res :=
  let d := registryAt s.cfg.registry f.command
  if shapeMismatch d f.payloadLength then raise .payloadShapeError s
  else if s.cfg.dirCheck && wrongWay d then raise .wrongDirection s
  else andThen (connectOn f s) (fun s1 => .next (s1.emit (.dispatch f.command f.sequence f.payload d)))

/-- A buffer from the transport (43_handshake R146). -/
def receive (buf : Bytes) (s : State) : Res :=
  match fdec buf with
  | .notSevenBit => .refused .bufferNotSevenBit
  | .error e => raise e.status s
  | .frame f => route f s

/-- LINKINIT: the eight elements take their reset values, nothing is emitted; configuration, presented events, trace and
the count of draws are no state elements and stay (43_handshake R153, logs 2 to 5). -/
def linkReset (s : State) : State :=
  { State.resetWith s.cfg with port := s.port, out := s.out, draws := s.draws }

/-! ## Fetching -/

/-- Take the oldest presented item: events are processed strictly in arrival order (20_memory R67). -/
def takeItem (s : State) : Option (PortItem × State) :=
  match s.port with
  | [] => none
  | item :: rest => some (item, s.putPort rest)

end Sys2Proof.Machine
end

