-- ==== Sys2Proof/Machine/Coalescer.lean ====
section
/-! DEFINITION. MessageCoalescer: QUEUE, FLUSH, FORCEFLUSH (spec/44_coalescer.md). None of them reads `conn` (R170). -/

namespace Sys2Proof.Machine

/-- QUEUE (44_coalescer R165, R171). -/
def execQueue (cmd : Byte) (key : Word14) (payload : Bytes) (prio : Byte) (s : State) : Res :=
  queueSlot cmd key payload prio s

/-- FLUSH (44_coalescer R167): a flush that passes the gate records its time and drains the slots. -/
def execFlush (now : Nat) (s : State) : Res :=
  if flushDue s.lastFlush s.cfg.tFlushMin now then .next (emitAll (s.putLastFlush now)) else .next s

/-- FORCEFLUSH (44_coalescer R168): drains the slots, whatever the time. -/
def execForceflush (s : State) : Res := .next (emitAll s)

end Sys2Proof.Machine
end

