-- ==== Sys2Proof/Machine/FrameCodec.lean ====
section
/-! DEFINITION. FrameCodec: FENC, FDEC (spec/41_framecodec.md). Both are pure (R122). -/

namespace Sys2Proof.Machine

/-- FENC (41_framecodec R120): a payload byte of 0x80 or more is refused, a payload too long for its length field is
`Oversize`, every other payload is framed. -/
def execFenc (cmd : Byte) (seq : Septet) (payload : Bytes) (s : State) : Res :=
  if !allSevenBit payload then .refused .payloadNotSevenBit
  else if s.cfg.lenMax.value < payload.length then raise .oversize s
  else giveResult (.bytes (frameBytes cmd seq payload)) s

/-- FDEC (41_framecodec R121): the frame, or the first error that applies, is the result. -/
def execFdec (buf : Bytes) (s : State) : Res :=
  match fdec buf with
  | .notSevenBit => .refused .bufferNotSevenBit
  | .error e => giveResult (.error e) s
  | .frame f => giveResult (.frame f) s

end Sys2Proof.Machine
end

