-- ==== Sys2Proof/Machine/GridSync.lean ====
section
/-! DEFINITION. GridStateSynchronizer: CELLUPDATE, RENDER, BLEND (spec/46_grid_sync.md). The size of the grid is
`GRID_W` by `GRID_H` of the configuration (log 15). -/

namespace Sys2Proof.Machine

/-- CELLUPDATE (46_grid_sync R200): the pad of a subscribed cell inside the window is written and the whole grid is
queued; any other notification is ignored. -/
def execCellupdate (track scene : Word14) (r g b : Byte) (occ : BitVec 1) (s : State) : Res :=
  if (s.subs.read ⟨track, scene⟩).isNone then .next s
  else if inSpan track.toNat s.win.trackOffset.toNat s.cfg.gridW.toNat
      && inSpan scene.toNat s.win.sceneOffset.toNat s.cfg.gridH.toNat then
    queueGrid
      (s.putCell
        (padIndex s.cfg.gridW (track.toNat - s.win.trackOffset.toNat) (scene.toNat - s.win.sceneOffset.toNat))
        ⟨r, g, b, occ == 1⟩)
  else .next s

/-- RENDER (46_grid_sync R201): 192 bytes, six a pad. -/
def execRender (s : State) : Res := giveResult (.bytes (renderGrid s)) s

/-- BLEND (46_grid_sync R202). -/
def execBlend (r g b : Byte) (inViewport : BitVec 1) (s : State) : Res :=
  giveResult (.color (blendColor ⟨r, g, b⟩ (inViewport == 1))) s

end Sys2Proof.Machine
end

