-- ==== Sys2Proof/Machine/Handshake.lean ====
section
/-! DEFINITION. HandshakeStateMachine: RXFRAME, TICKRETRY, TEARDOWN, LINKINIT (spec/43_handshake.md). Only these rules
write `conn` and `retryArmed` (spec/10_state.md R37). -/

namespace Sys2Proof.Machine

/-- RXFRAME (43_handshake R146): decode, route, connect if unconnected, dispatch. -/
def execRxframe (buf : Bytes) (s : State) : Res := receive buf s

/-- TICKRETRY (43_handshake R150): a handshake frame while the timer is armed and the link is not connected. -/
def execTickretry (s : State) : Res :=
  if s.retryArmed = true ∧ s.conn ≠ .connected then .next (send s.cfg.cmdHandshake.value s.cfg.tag s) else .next s

/-- TEARDOWN (43_handshake R151): from `Connected`, a disconnect frame and `Disconnected`; else nothing. -/
def execTeardown (s : State) : Res :=
  if s.conn = .connected then
    .next (send s.cfg.cmdDisconnect [] ((s.putConn .disconnected).putRetryArmed s.cfg.rearmOnTeardown))
  else .next s

/-- LINKINIT (43_handshake R153, 70_reset_and_hazards R250). -/
def execLinkinit (s : State) : Res := .next (linkReset s)

end Sys2Proof.Machine
end

