-- ==== Sys2Proof/Machine/Registry.lean ====
section
/-! DEFINITION. CommandRegistry: LOOKUP, and the reception of the five wire commands (spec/42_registry_router.md). The command
bytes are the configuration's (spec/30_encoding.md R104). -/

namespace Sys2Proof.Machine

/-- LOOKUP (42_registry_router R130): a descriptor, or none, for every one of the 256 bytes. -/
def execLookup (id : Byte) (s : State) : Res := giveResult (.descriptor (registryAt s.cfg.registry id)) s

/-- CMD_HANDSHAKE (42_registry_router R133): the reception of one such frame (log 10). -/
def execCmdHandshake (seq : Septet) (payload : Bytes) (s : State) : Res :=
  receive (frameBytes s.cfg.cmdHandshake.value seq payload) s

/-- CMD_HANDSHAKE_REPLY (42_registry_router R134): received, an ordinary valid frame unless `DIRCHECK` drops
it (log 10). -/
def execCmdHandshakeReply (seq : Septet) (payload : Bytes) (s : State) : Res :=
  receive (frameBytes s.cfg.cmdHandshakeReply seq payload) s

/-- CMD_DISCONNECT (42_registry_router R136): received, an ordinary valid frame, which does not disconnect
(log 10). -/
def execCmdDisconnect (seq : Septet) (payload : Bytes) (s : State) : Res :=
  receive (frameBytes s.cfg.cmdDisconnect seq payload) s

/-- CMD_GRID (42_registry_router R135): received, an ordinary frame of a `Fixed(192)` command (log 10). -/
def execCmdGrid (seq : Septet) (payload : Bytes) (s : State) : Res :=
  receive (frameBytes s.cfg.cmdGrid seq payload) s

/-- CMD_VOLUME (42_registry_router R137): received, its payload is opaque to the block (log 10). -/
def execCmdVolume (seq : Septet) (payload : Bytes) (s : State) : Res :=
  receive (frameBytes s.cfg.cmdVolume seq payload) s

end Sys2Proof.Machine
end

