-- ==== Sys2Proof/Machine/RingTracker.lean ====
section
/-! DEFINITION. SessionRingTracker: NAVLEFT, NAVRIGHT, NAVUP, NAVDOWN, FOLLOW, TOABS, TORING, SETTOTALS, SETOVERVIEW
(spec/45_ring_tracker.md). The size of the window is `win.width` by `win.height` (log 15). -/

namespace Sys2Proof.Machine

/-- The window's track offset as an integer. -/
def trackOff (s : State) : Int := s.win.trackOffset.toNat

/-- The window's scene offset as an integer. -/
def sceneOff (s : State) : Int := s.win.sceneOffset.toNat

/-- NAVLEFT (45_ring_tracker R182). -/
def execNavleft (s : State) : Res := winChange (normalizeAt s.win (trackOff s - 1) (sceneOff s)) s

/-- NAVRIGHT (45_ring_tracker R183). -/
def execNavright (s : State) : Res := winChange (normalizeAt s.win (trackOff s + 1) (sceneOff s)) s

/-- NAVUP (45_ring_tracker R184). -/
def execNavup (s : State) : Res := winChange (normalizeAt s.win (trackOff s) (sceneOff s - 1)) s

/-- NAVDOWN (45_ring_tracker R185). -/
def execNavdown (s : State) : Res := winChange (normalizeAt s.win (trackOff s) (sceneOff s + 1)) s

/-- FOLLOW (45_ring_tracker R186): each axis moves by the least that brings the position inside. -/
def execFollow (track scene : Word14) (s : State) : Res :=
  winChange
    (normalizeAt s.win (followOffset track.toNat s.win.trackOffset.toNat s.win.width.toNat)
      (followOffset scene.toNat s.win.sceneOffset.toNat s.win.height.toNat)) s

/-- TOABS (45_ring_tracker R187): a ring coordinate past the window is reported and clamped to its last column or row. -/
def execToabs (ringTrack ringScene : Septet) (s : State) : Res :=
  let rt := min ringTrack.toNat (s.win.width.toNat - 1)
  let rs := min ringScene.toNat (s.win.height.toNat - 1)
  let r := ResultValue.position (s.win.trackOffset.toNat + rt) (s.win.sceneOffset.toNat + rs)
  if rt ≠ ringTrack.toNat ∨ rs ≠ ringScene.toNat then giveResult r (s.emit (.status .rangeClamped))
  else giveResult r s

/-- TORING (45_ring_tracker R188): the ring position of a session position in the window's rectangle, else none. -/
def execToring (track scene : Word14) (s : State) : Res :=
  if inSpan track.toNat s.win.trackOffset.toNat s.win.width.toNat
      && inSpan scene.toNat s.win.sceneOffset.toNat s.win.height.toNat then
    giveResult (.ring (some (track.toNat - s.win.trackOffset.toNat, scene.toNat - s.win.sceneOffset.toNat))) s
  else giveResult (.ring none) s

/-- SETTOTALS (45_ring_tracker R189). -/
def execSettotals (tracks scenes : Word14) (s : State) : Res :=
  winChange (normalizeAt { s.win with totalTracks := tracks, totalScenes := scenes } (trackOff s) (sceneOff s)) s

/-- SETOVERVIEW (45_ring_tracker R190). -/
def execSetoverview (on : BitVec 1) (s : State) : Res :=
  winChange (normalizeAt { s.win with overviewMode := on == 1 } (trackOff s) (sceneOff s)) s

end Sys2Proof.Machine
end

