-- ==== Sys2Proof/Machine/ValueCodec.lean ====
section
/-! DEFINITION. ValueCodec: ENC14, DEC14, ENCCOLOR24, ENCASCII (spec/40_valuecodec.md). Pure: they read no state and
write none. -/

namespace Sys2Proof.Machine

/-- ENC14 (40_valuecodec R110): a value above 16383 is reported and clamped. -/
def execEnc14 (v : BitVec 16) (s : State) : Res :=
  let p := enc14 v.toNat
  if s.cfg.lenMax.value < v.toNat then giveResult (.pair p.1 p.2) (s.emit (.status .rangeClamped))
  else giveResult (.pair p.1 p.2) s

/-- DEC14 (40_valuecodec R111). -/
def execDec14 (msb lsb : Septet) (s : State) : Res := giveResult (.value (dec14 msb lsb)) s

/-- ENCCOLOR24 (40_valuecodec R112). -/
def execEnccolor24 (r g b : Byte) (s : State) : Res := giveResult (.bytes (encColor24 ⟨r, g, b⟩)) s

/-- ENCASCII (40_valuecodec R113). -/
def execEncascii (text : Bytes) (maxLen : Byte) (s : State) : Res := giveResult (.bytes (asciiField text maxLen)) s

end Sys2Proof.Machine
end

