-- ==== Sys2Proof/Machine/Dispatch.lean ====
section
/-! DEFINITION. One arm per instruction: each calls the meaning of its own (spec/opcode_table.json). -/

namespace Sys2Proof.Machine

def exec (i : Instr) (s : State) : Host.Outcome State Fault Refusal :=
  match i with
  | .enc14 v => Sys2Proof.Machine.execEnc14 v s
  | .dec14 msb lsb => Sys2Proof.Machine.execDec14 msb lsb s
  | .enccolor24 r g b => Sys2Proof.Machine.execEnccolor24 r g b s
  | .encascii text maxLen => Sys2Proof.Machine.execEncascii text maxLen s
  | .fenc cmd seq payload => Sys2Proof.Machine.execFenc cmd seq payload s
  | .fdec buf => Sys2Proof.Machine.execFdec buf s
  | .lookup id => Sys2Proof.Machine.execLookup id s
  | .rxframe buf => Sys2Proof.Machine.execRxframe buf s
  | .tickretry => Sys2Proof.Machine.execTickretry s
  | .teardown => Sys2Proof.Machine.execTeardown s
  | .linkinit => Sys2Proof.Machine.execLinkinit s
  | .queue cmd key payload prio => Sys2Proof.Machine.execQueue cmd key payload prio s
  | .flush now => Sys2Proof.Machine.execFlush now s
  | .forceflush => Sys2Proof.Machine.execForceflush s
  | .navleft => Sys2Proof.Machine.execNavleft s
  | .navright => Sys2Proof.Machine.execNavright s
  | .navup => Sys2Proof.Machine.execNavup s
  | .navdown => Sys2Proof.Machine.execNavdown s
  | .follow track scene => Sys2Proof.Machine.execFollow track scene s
  | .toabs ringTrack ringScene => Sys2Proof.Machine.execToabs ringTrack ringScene s
  | .toring track scene => Sys2Proof.Machine.execToring track scene s
  | .settotals tracks scenes => Sys2Proof.Machine.execSettotals tracks scenes s
  | .setoverview on => Sys2Proof.Machine.execSetoverview on s
  | .cellupdate track scene r g b occ => Sys2Proof.Machine.execCellupdate track scene r g b occ s
  | .render => Sys2Proof.Machine.execRender s
  | .blend r g b inViewport => Sys2Proof.Machine.execBlend r g b inViewport s
  | .cmdHandshake seq payload => Sys2Proof.Machine.execCmdHandshake seq payload s
  | .cmdHandshakeReply seq payload => Sys2Proof.Machine.execCmdHandshakeReply seq payload s
  | .cmdDisconnect seq payload => Sys2Proof.Machine.execCmdDisconnect seq payload s
  | .cmdGrid seq payload => Sys2Proof.Machine.execCmdGrid seq payload s
  | .cmdVolume seq payload => Sys2Proof.Machine.execCmdVolume seq payload s

end Sys2Proof.Machine
end

