-- ==== Sys2Proof/Machine/Step.lean ====
section
/-! DEFINITION. One step: the complete processing of the oldest event the environment has presented
(spec/00_scope.md R17, spec/20_memory.md R62, R67). -/

namespace Sys2Proof.Machine

/-- One step. With nothing presented the block holds its state and does nothing (60_exceptions R240); a record that is no
event of the port is refused (30_encoding R100); an event runs its rule to completion. -/
def step (s : State) : Host.Outcome State Fault Refusal :=
  match takeItem s with
  | none => .next s
  | some (item, s1) =>
    match decode s.cfg item with
    | .error e => .refused (.noEvent e)
    | .ok i => exec i s1

/-- `s` with the item of an opcode table row presented next (log 2, log 11). -/
def State.withFetchWord (s : State) (nbits w : Nat) : State := s.putPort (tableItem s.cfg nbits w :: s.port)

end Sys2Proof.Machine
end

