-- ==== Sys2Proof/Safety.lean ====
section
/-! DEFINITION. The terms statements are made in: a run of several instructions, the frames a drain emits, what is
counted on the output trace, when a queue has room and the router accepts, and the invariants of the reachable states
(spec/10_state.md R35). -/

namespace Sys2Proof.Machine

/-- Several instructions, one after the other; a refusal ends the run. -/
def execList : List Instr → State → Res
  | [], s => .next s
  | i :: rest, s => andThen (exec i s) (execList rest)

/-- The frames of a sequence of slots, with consecutive sequence numbers (41_framecodec R125, 44_coalescer R166). -/
def framesFrom (seq : Septet) : List Slot → List Output
  | [] => []
  | x :: rest => .tx (frameBytes x.cmd seq x.payload) :: framesFrom (seq + 1) rest

/-- An output is a transmitted frame. -/
def Output.isTx : Output → Bool
  | .tx _ => true
  | .subscribe _ => false
  | .unsubscribe _ => false
  | .getValue _ => false
  | .windowChanged _ => false
  | .dumpReq => false
  | .dispatch _ _ _ _ => false
  | .status _ => false
  | .result _ => false

/-- An output is a call on the state source (60_exceptions R236). -/
def Output.isSourceCall : Output → Bool
  | .tx _ => false
  | .subscribe _ => true
  | .unsubscribe _ => true
  | .getValue _ => true
  | .windowChanged _ => false
  | .dumpReq => false
  | .dispatch _ _ _ _ => false
  | .status _ => false
  | .result _ => false

/-- The slot table has room for `(cmd, key)`: that slot is pending already, or fewer than `N_SLOTS` are
(44_coalescer R171). -/
def State.roomFor (s : State) (cmd : Byte) (key : Word14) : Prop :=
  (∃ x ∈ s.slots, x.cmd = cmd ∧ x.key = key) ∨ s.slots.length < s.cfg.nSlots

/-- The slot table has room for the grid frame (46_grid_sync R204). -/
def State.roomForGrid (s : State) : Prop := s.roomFor s.cfg.cmdGrid singletonKey

/-- The router lets a frame with this command byte and payload length through (42_registry_router R138). -/
def State.accepts (s : State) (cmd : Byte) (len : Nat) : Prop :=
  (∀ dir n, registryAt s.cfg.registry cmd = some ⟨cmd, dir, .fixed n⟩ → len = n)
    ∧ (s.cfg.dirCheck = true → ∀ size, registryAt s.cfg.registry cmd ≠ some ⟨cmd, .hostToDevice, size⟩)

/-- Two entries name the same address of the SLOT space (20_memory R52). -/
def Slot.at (x : Slot) (cmd : Byte) (key : Word14) : Prop := x.cmd = cmd ∧ x.key = key

/-- `queued` is `slots` with `x` upserted: in the place of the first slot of its address, or at the end where there is
none (44_coalescer R165). -/
def Upserted (x : Slot) (slots queued : List Slot) : Prop :=
  (∃ pre y post, slots = pre ++ y :: post ∧ (∀ z ∈ pre, ¬ z.at x.cmd x.key) ∧ y.at x.cmd x.key
      ∧ queued = pre ++ x :: post)
    ∨ ((∀ z ∈ slots, ¬ z.at x.cmd x.key) ∧ queued = slots ++ [x])

/-- `order` is `slots` in the order of emission: the same slots, highest tier first, and within a tier in the order of
`slots` (44_coalescer R166). -/
def EmissionOrder (slots order : List Slot) : Prop :=
  order.Perm slots ∧ order.Pairwise (fun a b => b.prio ≤ a.prio)
    ∧ ∀ p, order.filter (fun x => x.prio == p) = slots.filter (fun x => x.prio == p)

/-- The report a priority above the top tier leaves (44_coalescer R165). -/
def tierReport (s : State) (prio : Byte) : List Output :=
  if s.cfg.nPrio - 1 < prio.toNat then [.status .rangeClamped] else []

/-- The slot the grid synchronizer queues: the whole rendered grid under the grid's one address (46_grid_sync R204). -/
def gridSlot (s : State) : Slot :=
  ⟨s.cfg.cmdGrid, singletonKey, renderGrid s, min s.cfg.prioGrid.toNat (s.cfg.nPrio - 1)⟩

/-- The state after a valid frame has connected the link and been dispatched, where `order` is what the dump emitted
(43_handshake R152, 42_registry_router R140). -/
def State.connectedBy (s : State) (reply : Bool) (order : List Slot) (dispatched : Output) : State :=
  { s with
    conn := .connected
    retryArmed := false
    slots := []
    txSeq := s.txSeq + (if reply then 1 else 0) + BitVec.ofNat 7 order.length
    out := s.out ++ (if reply then [.tx (frameBytes s.cfg.cmdHandshakeReply s.txSeq s.cfg.hsReplyPayload)] else [])
      ++ [.dumpReq] ++ tierReport s s.cfg.prioGrid
      ++ framesFrom (s.txSeq + (if reply then 1 else 0)) order ++ [dispatched] }

/-- Receiving the frame of `cmd`, `seq`, `payload` in `s` answers `r`: as the event RXFRAME, and as the wire command,
where `cmd` is the byte the configuration gives one of the five (42_registry_router R133 to R137, 30_encoding R104). -/
def ReceptionAnswers (cmd : Byte) (seq : Septet) (payload : Bytes) (s : State) (r : Res) : Prop :=
  exec (.rxframe (frameBytes cmd seq payload)) s = r
    ∧ (cmd = 0x60 → exec (.cmdHandshake seq payload) s = r)
    ∧ (cmd = s.cfg.cmdHandshakeReply → exec (.cmdHandshakeReply seq payload) s = r)
    ∧ (cmd = s.cfg.cmdDisconnect → exec (.cmdDisconnect seq payload) s = r)
    ∧ (cmd = s.cfg.cmdGrid → exec (.cmdGrid seq payload) s = r)
    ∧ (cmd = s.cfg.cmdVolume → exec (.cmdVolume seq payload) s = r)

/-- Receiving the frame takes `s` to `t`. -/
abbrev ReceptionGives (cmd : Byte) (seq : Septet) (payload : Bytes) (s t : State) : Prop :=
  ReceptionAnswers cmd seq payload s (.next t)

/-- A window operation takes `s` to a state with the window `w`. Where that is the window already, nothing at all
happens; where there is room for the grid frame, it answers, and connection, sequence counter, flush time,
configuration and presented events stay as they are; where there is none, a window that differs is refused
(45_ring_tracker R191, 44_coalescer R171; log 20). -/
def MovesWindowTo (i : Instr) (s : State) (w : RingWindow) : Prop :=
  (w = s.win → exec i s = .next s)
    ∧ (s.roomForGrid → ∃ t, exec i s = .next t ∧ t.win = w ∧ t.conn = s.conn ∧ t.retryArmed = s.retryArmed
        ∧ t.txSeq = s.txSeq ∧ t.lastFlush = s.lastFlush ∧ t.cfg = s.cfg ∧ t.port = s.port)
    ∧ (¬ s.roomForGrid → w ≠ s.win → exec i s = .refused .coalescerFull)

/-- The offset 45_ring_tracker R186 gives one axis, before the clamp. -/
def followAxis (pos off size : Nat) : Nat :=
  if pos < off then pos else if off + size ≤ pos then pos - size + 1 else off

/-- The operations that end in WINCHANGE (45_ring_tracker R191). -/
def windowOps (i : Instr) : Prop :=
  i = .navleft ∨ i = .navright ∨ i = .navup ∨ i = .navdown ∨ (∃ t s, i = .follow t s) ∨ (∃ t s, i = .settotals t s)
    ∨ (∃ on, i = .setoverview on)

/-- The receptions of a buffer: RXFRAME and the five wire commands. -/
def receptions (i : Instr) : Prop :=
  (∃ buf, i = .rxframe buf) ∨ (∃ seq p, i = .cmdHandshake seq p) ∨ (∃ seq p, i = .cmdHandshakeReply seq p)
    ∨ (∃ seq p, i = .cmdDisconnect seq p) ∨ (∃ seq p, i = .cmdGrid seq p) ∨ (∃ seq p, i = .cmdVolume seq p)

/-! ## Invariants of the reachable states (10_state R35) -/

/-- R35 (a): one slot an address, at most `N_SLOTS`, payloads fit for a frame, tiers below `N_PRIO`. -/
def State.SlotsInv (s : State) : Prop :=
  (s.slots.map (fun x => (x.cmd, x.key))).Nodup ∧ s.slots.length ≤ s.cfg.nSlots
    ∧ ∀ x ∈ s.slots, payloadOk x.payload = true ∧ x.prio < s.cfg.nPrio

/-- R35 (e), (g): an armed timer means an unconnected link, and `AwaitingReply` is never held. -/
def State.LinkInv (s : State) : Prop := (s.retryArmed = true → s.conn ≠ .connected) ∧ s.conn ≠ .awaitingReply

/-- R35 (c): the window has the configured size and its offsets are clamped (subtraction of naturals stops at 0). -/
def State.WindowInv (s : State) : Prop :=
  s.win.width = s.cfg.gridW ∧ s.win.height = s.cfg.gridH
    ∧ s.win.trackOffset.toNat ≤ s.win.totalTracks.toNat - s.win.width.toNat
    ∧ s.win.sceneOffset.toNat ≤ s.win.totalScenes.toNat - s.win.height.toNat

/-- R35 (d): the subscription table is canonical and its domain is the visible set. -/
def State.SubsInv (s : State) : Prop := Subs.wf s.subs ∧ ∀ c, c ∈ Subs.dom s.subs ↔ isVisible s.win c = true

/-- R35 (f): pads beyond the configured grid are black and unoccupied. -/
def State.GridInv (s : State) : Prop :=
  ∀ i : Fin 32, s.cfg.gridW.toNat * s.cfg.gridH.toNat ≤ i.val → s.grid[i] = GridCell.black

/-- The invariant of the reachable states: R35 (a) and (c) to (g), over a well-formed configuration; (b) is the type of
`txSeq`. -/
def State.Inv (s : State) : Prop :=
  s.cfg.wf = true ∧ s.SlotsInv ∧ s.LinkInv ∧ s.WindowInv ∧ s.SubsInv ∧ s.GridInv

end Sys2Proof.Machine
end

