-- ==== Sys2Proof/Certificates/Slice0/Obligations.lean ====
section
/-! DEFINITION. The statements for the provers, in the order of spec/: the codecs, the registry, the connection state
machine, the coalescer, the ring tracker, the grid, then the machine as a whole. Their terms are in
Sys2Proof/Safety.lean. Where a statement takes a next state as `{ s with … }`, everything not named is unchanged. -/

open Sys2Proof Sys2Proof.Machine

/-! ## ValueCodec -/

/-- R110. ENC14 gives quotient and remainder by 128 of the value clamped to 16383, and reports the clamp. -/
def Obligations.Enc14GivesClampedPair : Prop :=
  ∀ (s : State) (v : BitVec 16),
    exec (.enc14 v) s = .next { s with
      out := s.out ++ (if 16383 < v.toNat then [.status .rangeClamped] else [])
        ++ [.result (.pair (BitVec.ofNat 7 (min v.toNat 16383 / 128)) (BitVec.ofNat 7 (min v.toNat 16383 % 128)))] }

/-- R111. DEC14 gives `msb * 128 + lsb`. -/
def Obligations.Dec14GivesWeightedSum : Prop :=
  ∀ (s : State) (msb lsb : Septet),
    exec (.dec14 msb lsb) s = .next { s with
      out := s.out ++ [.result (.value (BitVec.ofNat 14 (msb.toNat * 128 + lsb.toNat)))] }

/-- R114. DEC14 after ENC14 gives the value back up to 16383 and 16383 above; ENC14 after DEC14 gives the pair back. -/
def Obligations.PairRoundTrips : Prop :=
  (∀ (s : State) (v : BitVec 16), ∃ msb lsb report,
    exec (.enc14 v) s = .next { s with out := s.out ++ report ++ [.result (.pair msb lsb)] }
      ∧ exec (.dec14 msb lsb) s = .next { s with
          out := s.out ++ [.result (.value (BitVec.ofNat 14 (if v.toNat ≤ 16383 then v.toNat else 16383)))] })
  ∧ (∀ (s : State) (msb lsb : Septet), ∃ v : Word14,
      exec (.dec14 msb lsb) s = .next { s with out := s.out ++ [.result (.value v)] }
        ∧ exec (.enc14 (v.setWidth 16)) s = .next { s with out := s.out ++ [.result (.pair msb lsb)] })

/-- R112. ENCCOLOR24 gives red, green, blue, each as quotient and remainder by 128. -/
def Obligations.EncColorGivesSixBytes : Prop :=
  ∀ (s : State) (r g b : Byte),
    exec (.enccolor24 r g b) s = .next { s with
      out := s.out ++ [.result (.bytes
        [BitVec.ofNat 8 (r.toNat / 128), BitVec.ofNat 8 (r.toNat % 128),
         BitVec.ofNat 8 (g.toNat / 128), BitVec.ofNat 8 (g.toNat % 128),
         BitVec.ofNat 8 (b.toNat / 128), BitVec.ofNat 8 (b.toNat % 128)])] }

/-- R113. ENCASCII gives the length byte, then that many text bytes, each masked to seven bits. -/
def Obligations.EncAsciiGivesLengthThenMaskedText : Prop :=
  ∀ (s : State) (text : Bytes) (maxLen : Byte), ∃ b : Bytes,
    exec (.encascii text maxLen) s = .next { s with out := s.out ++ [.result (.bytes b)] }
      ∧ b.length = 1 + min text.length (min maxLen.toNat 127)
      ∧ b[0]? = some (BitVec.ofNat 8 (min text.length (min maxLen.toNat 127)))
      ∧ ∀ i, i < min text.length (min maxLen.toNat 127) →
          b[i + 1]? = (text[i]?).map (fun c => BitVec.ofNat 8 (c.toNat % 128))

/-! ## FrameCodec -/

/-- R120. FENC: a payload byte above 0x7F is refused, a payload above 16383 bytes is `Oversize` and nothing else, and
every other payload is framed, with its length as quotient and remainder by 128 and the masked exclusive-or of command,
sequence and payload as checksum. -/
def Obligations.FencFramesOrRejects : Prop :=
  ∀ (s : State) (cmd : Byte) (seq : Septet) (payload : Bytes),
    ((∃ b ∈ payload, 127 < b.toNat) → exec (.fenc cmd seq payload) s = .refused .payloadNotSevenBit)
    ∧ ((∀ b ∈ payload, b.toNat ≤ 127) → 16383 < payload.length →
        exec (.fenc cmd seq payload) s = .next { s with out := s.out ++ [.status .oversize] })
    ∧ ((∀ b ∈ payload, b.toNat ≤ 127) → payload.length ≤ 16383 →
        exec (.fenc cmd seq payload) s = .next { s with out := s.out ++ [.result (.bytes
          ([0xF0, 0x7F, 0x00, 0x7F, cmd, seq.setWidth 8,
            BitVec.ofNat 8 (payload.length / 128), BitVec.ofNat 8 (payload.length % 128)]
            ++ payload
            ++ [payload.foldl (fun acc b => acc ^^^ b) (cmd ^^^ seq.setWidth 8) &&& 0x7F, 0xF7]))] })

/-- R121, for the buffers its precondition admits (offsets 5, 6, 7 and 8 to N - 2 at most 0x7F): the checks run in the
order Truncated, BadHeader, BadFooter, LengthMismatch, BadChecksum, and a buffer that passes them is the frame of its
fields. What happens to the other buffers is the model's choice (log 8) and is `FdecPlacesTheSevenBitCheck`. -/
def Obligations.FdecChecksInOrder : Prop :=
  ∀ (s : State) (buf : Bytes),
    (∀ i b, buf[i]? = some b → 5 ≤ i → (i ≤ 7 ∨ i + 2 ≤ buf.length) → b.toNat ≤ 127) →
    let at' := fun i => (buf[i]?).getD 0
    let len := (at' 6).toNat * 128 + (at' 7).toNat
    let payload := (buf.drop 8).take len
    let ck := payload.foldl (fun acc b => acc ^^^ b) (at' 4 ^^^ at' 5) &&& 0x7F
    let answer : ResultValue :=
      if buf.length < 10 then .error .truncated
      else if buf.take 4 ≠ [0xF0, 0x7F, 0x00, 0x7F] then .error .badHeader
      else if at' (buf.length - 1) ≠ 0xF7 then .error .badFooter
      else if buf.length - 10 ≠ len then .error .lengthMismatch
      else if at' (8 + len) ≠ ck then .error .badChecksum
      else .frame ⟨at' 4, at' 5, len, payload, ck⟩
    exec (.fdec buf) s = .next { s with out := s.out ++ [.result answer] }

/-- The model's choice (log 8), from R81, R87, R101 and R61: a buffer too short, without the header or without the
footer is that error whatever its other bytes are; past those three checks a sequence or length byte above 0x7F is
refused; with seven-bit ones a wrong length is LengthMismatch whatever the bytes from offset 8 on are (two frames in one
buffer, V-FD-17); past the length check a payload or checksum byte above 0x7F is refused. FDEC and RXFRAME agree on the
refusals. -/
def Obligations.FdecPlacesTheSevenBitCheck : Prop :=
  ∀ (s : State) (buf : Bytes),
    let gives := fun (e : FrameError) => exec (.fdec buf) s = .next { s with out := s.out ++ [.result (.error e)] }
    let refuses := exec (.fdec buf) s = .refused .bufferNotSevenBit ∧ exec (.rxframe buf) s = .refused .bufferNotSevenBit
    (buf.length < 10 → gives .truncated)
    ∧ (10 ≤ buf.length → buf.take 4 ≠ [0xF0, 0x7F, 0x00, 0x7F] → gives .badHeader)
    ∧ (10 ≤ buf.length → buf.take 4 = [0xF0, 0x7F, 0x00, 0x7F] → buf[buf.length - 1]? ≠ some 0xF7 → gives .badFooter)
    ∧ (10 ≤ buf.length → buf.take 4 = [0xF0, 0x7F, 0x00, 0x7F] → buf[buf.length - 1]? = some 0xF7 →
        (∃ i b, 5 ≤ i ∧ i ≤ 7 ∧ buf[i]? = some b ∧ 127 < b.toNat) → refuses)
    ∧ (∀ seq lm ll : Septet, ∀ cmd : Byte, ∀ body : Bytes,
        buf = [0xF0, 0x7F, 0x00, 0x7F, cmd, seq.setWidth 8, lm.setWidth 8, ll.setWidth 8] ++ body ++ [0xF7] →
        body.length = lm.toNat * 128 + ll.toNat + 1 → (∃ b ∈ body, 127 < b.toNat) → refuses)
    ∧ (∀ seq lm ll : Septet, ∀ cmd : Byte, ∀ body : Bytes,
        buf = [0xF0, 0x7F, 0x00, 0x7F, cmd, seq.setWidth 8, lm.setWidth 8, ll.setWidth 8] ++ body ++ [0xF7] →
        1 ≤ body.length → body.length ≠ lm.toNat * 128 + ll.toNat + 1 → gives .lengthMismatch)

/-- R122. FDEC of what FENC gives is the frame of FENC's operands, for every command, sequence number and payload of at
most 16383 seven-bit bytes; and FDEC changes no state, whatever the buffer. -/
def Obligations.FdecOfFencIsTheFrame : Prop :=
  (∀ (s : State) (cmd : Byte) (seq : Septet) (payload : Bytes),
    payload.length ≤ 16383 → (∀ b ∈ payload, b.toNat ≤ 127) → ∃ (bytes : Bytes) (ck : Byte),
      exec (.fenc cmd seq payload) s = .next { s with out := s.out ++ [.result (.bytes bytes)] }
      ∧ ck = payload.foldl (fun acc b => acc ^^^ b) (cmd ^^^ seq.setWidth 8) &&& 0x7F
      ∧ exec (.fdec bytes) s = .next { s with
          out := s.out ++ [.result (.frame ⟨cmd, seq.setWidth 8, payload.length, payload, ck⟩)] })
  ∧ (∀ (s t : State) (buf : Bytes), exec (.fdec buf) s = .next t → ∃ v, t = { s with out := s.out ++ [.result v] })

/-- R123, its first claim. Replacing one payload byte of a valid frame by another seven-bit byte makes FDEC answer
BadChecksum, always. -/
def Obligations.OnePayloadByteChangedIsBadChecksum : Prop :=
  ∀ (s : State) (cmd : Byte) (seq : Septet) (payload : Bytes) (i : Nat) (old new : Byte),
    payload.length ≤ 16383 → (∀ b ∈ payload, b.toNat ≤ 127) → payload[i]? = some old → new ≠ old → new.toNat ≤ 127 →
    exec (.fdec ((frameBytes cmd seq payload).set (8 + i) new)) s
      = .next { s with out := s.out ++ [.result (.error .badChecksum)] }

/-! ## CommandRegistry and the router -/

/-- R130, over a registry that is a partial function (R132). LOOKUP gives the one entry of the byte, or none. -/
def Obligations.LookupGivesTheEntry : Prop :=
  ∀ (s : State) (id : Byte), (s.cfg.registry.map (·.id)).Nodup →
    (∀ d ∈ s.cfg.registry, d.id = id →
      exec (.lookup id) s = .next { s with out := s.out ++ [.result (.descriptor (some d))] })
    ∧ ((∀ d ∈ s.cfg.registry, d.id ≠ id) →
      exec (.lookup id) s = .next { s with out := s.out ++ [.result (.descriptor none)] })

/-- R138, R146, R124. A buffer that decodes to an error, a frame whose length contradicts a `Fixed(n)` entry, and, with
direction checking on, a frame of a `HostToDevice` command, are each dropped: one report, no other change. -/
def Obligations.RejectedFramesAreDropped : Prop :=
  ∀ (s : State),
    (∀ (buf : Bytes) (e : FrameError),
      exec (.fdec buf) s = .next { s with out := s.out ++ [.result (.error e)] } →
      exec (.rxframe buf) s = .next { s with out := s.out ++ [.status e.status] })
    ∧ (∀ (cmd : Byte) (seq : Septet) (payload : Bytes) (dir : Direction) (n : Nat), payloadOk payload = true →
      registryAt s.cfg.registry cmd = some ⟨cmd, dir, .fixed n⟩ → payload.length ≠ n →
      ReceptionGives cmd seq payload s { s with out := s.out ++ [.status .payloadShapeError] })
    ∧ (∀ (cmd : Byte) (seq : Septet) (payload : Bytes) (size : SizeKind), payloadOk payload = true →
      registryAt s.cfg.registry cmd = some ⟨cmd, .hostToDevice, size⟩ → (∀ n, size = .fixed n → payload.length = n) →
      s.cfg.dirCheck = true →
      ReceptionGives cmd seq payload s { s with out := s.out ++ [.status .wrongDirection] })

/-! ## HandshakeStateMachine -/

/-- R147, R152, R154. A valid handshake frame on a link that is not connected: the timer is cancelled, the reply goes out
first, the dump is announced, the grid is queued, every pending slot is emitted by priority, and the frame is
dispatched; nothing else changes. Completion of RXFRAME and CMD_HANDSHAKE. -/
def Obligations.HandshakeFrameRepliesAndConnects : Prop :=
  ∀ (s : State) (seq : Septet) (payload : Bytes),
    payloadOk payload = true → s.accepts 0x60 payload.length → s.conn ≠ .connected → s.roomForGrid →
    ∃ queued order, Upserted (gridSlot s) s.slots queued ∧ EmissionOrder queued order
      ∧ ReceptionGives 0x60 seq payload s (s.connectedBy true order
          (.dispatch 0x60 (seq.setWidth 8) payload (registryAt s.cfg.registry 0x60)))

/-- R148, R141, R152, R154. A valid frame of any other command, known or unknown, on a link that is not connected:
the same without the reply. Completion of RXFRAME and of CMD_HANDSHAKE_REPLY, CMD_DISCONNECT, CMD_GRID, CMD_VOLUME. -/
def Obligations.AnyOtherFrameConnectsWithoutReply : Prop :=
  ∀ (s : State) (cmd : Byte) (seq : Septet) (payload : Bytes), cmd ≠ 0x60 →
    payloadOk payload = true → s.accepts cmd payload.length → s.conn ≠ .connected → s.roomForGrid →
    ∃ queued order, Upserted (gridSlot s) s.slots queued ∧ EmissionOrder queued order
      ∧ ReceptionGives cmd seq payload s (s.connectedBy false order
          (.dispatch cmd (seq.setWidth 8) payload (registryAt s.cfg.registry cmd)))

/-- R149, R140. A valid frame on a connected link is dispatched and changes nothing, whatever its command. Completion of
RXFRAME and of the five wire commands. -/
def Obligations.FrameOnConnectedLinkIsOnlyDispatched : Prop :=
  ∀ (s : State) (cmd : Byte) (seq : Septet) (payload : Bytes),
    payloadOk payload = true → s.accepts cmd payload.length → s.conn = .connected →
    ReceptionGives cmd seq payload s { s with
      out := s.out ++ [.dispatch cmd (seq.setWidth 8) payload (registryAt s.cfg.registry cmd)] }

/-- R150. TICKRETRY sends one handshake frame while the timer is armed and the link is not connected; else nothing. -/
def Obligations.TickretrySendsOneHandshake : Prop :=
  ∀ (s : State),
    exec .tickretry s = .next (if s.retryArmed = true ∧ s.conn ≠ .connected then
      { s with txSeq := s.txSeq + 1, out := s.out ++ [.tx (frameBytes 0x60 s.txSeq s.cfg.tag)] } else s)

/-- R151. TEARDOWN on a connected link sends one empty disconnect frame and leaves `Disconnected`, with the timer as the
parameter says; on any other link it does nothing. -/
def Obligations.TeardownDisconnects : Prop :=
  ∀ (s : State),
    exec .teardown s = .next (if s.conn = .connected then
      { s with
        conn := .disconnected
        retryArmed := s.cfg.rearmOnTeardown
        txSeq := s.txSeq + 1
        out := s.out ++ [.tx (frameBytes s.cfg.cmdDisconnect s.txSeq [])] } else s)

/-- R153 with the values of R36. LINKINIT gives every state element its reset value and emits nothing. That the model's
own fields (configuration, presented events, trace, count of draws) stay is its choice (logs 2 to 5). -/
def Obligations.LinkinitResetsEveryElement : Prop :=
  ∀ (s : State), ∃ t, exec .linkinit s = .next t
    ∧ t.conn = .disconnected ∧ t.retryArmed = true ∧ t.txSeq = 0
    ∧ t.win = ⟨0, 0, s.cfg.gridW, s.cfg.gridH, 0, 0, false⟩
    ∧ (∀ i : Fin 32, t.grid[i] = ⟨0, 0, 0, false⟩)
    ∧ t.slots = [] ∧ t.lastFlush = none ∧ t.subs = []
    ∧ t.cfg = s.cfg ∧ t.port = s.port ∧ t.out = s.out ∧ t.draws = s.draws

/-- R36. The reset state, element by element, for every configuration; the machine's reset state is one of these. -/
def Obligations.ResetHoldsTheStatedValues : Prop :=
  (∀ c : Config,
    (State.resetWith c).conn = .disconnected ∧ (State.resetWith c).retryArmed = true ∧ (State.resetWith c).txSeq = 0
    ∧ (State.resetWith c).win = ⟨0, 0, c.gridW, c.gridH, 0, 0, false⟩
    ∧ (∀ i : Fin 32, (State.resetWith c).grid[i] = ⟨0, 0, 0, false⟩)
    ∧ (State.resetWith c).slots = [] ∧ (State.resetWith c).lastFlush = none ∧ (State.resetWith c).subs = [])
  ∧ ∃ c, Sys2Proof.core.reset = State.resetWith c

/-! ## MessageCoalescer -/

/-- R165, where the payload can be framed and there is room. QUEUE upserts the one slot of its address, the tier clamped
to the top one, reports the clamp, and transmits nothing. -/
def Obligations.QueueUpsertsOneSlot : Prop :=
  ∀ (s : State) (cmd : Byte) (key : Word14) (payload : Bytes) (prio : Byte),
    payloadOk payload = true → s.roomFor cmd key →
    ∃ queued, Upserted ⟨cmd, key, payload, min prio.toNat (s.cfg.nPrio - 1)⟩ s.slots queued
      ∧ exec (.queue cmd key payload prio) s = .next { s with slots := queued, out := s.out ++ tierReport s prio }

/-- R165, R171, the other cases of QUEUE: a payload byte above 0x7F is refused, a payload above 16383 bytes is `Oversize`
and changes nothing, and slot number `N_SLOTS + 1` is refused. -/
def Obligations.QueueRejectsWhatItCannotHold : Prop :=
  ∀ (s : State) (cmd : Byte) (key : Word14) (payload : Bytes) (prio : Byte),
    ((∃ b ∈ payload, 127 < b.toNat) → exec (.queue cmd key payload prio) s = .refused .payloadNotSevenBit)
    ∧ ((∀ b ∈ payload, b.toNat ≤ 127) → 16383 < payload.length →
        exec (.queue cmd key payload prio) s = .next { s with out := s.out ++ [.status .oversize] })
    ∧ (payloadOk payload = true → ¬ s.roomFor cmd key →
        exec (.queue cmd key payload prio) s = .refused .coalescerFull)

/-- R171 for the events that queue the grid of themselves (R200, R191, R152's corner case): where the table has no room for
the grid frame, CELLUPDATE of a written cell and a valid frame that would connect the link are refused whole, and a
window operation either has nothing to change or is refused. That a refused event leaves nothing behind is the model's
reading of 93 U5 (log 20). -/
def Obligations.GridFrameNeedsRoom : Prop :=
  ∀ (s : State), ¬ s.roomForGrid →
    (∀ (track scene : Word14) (r g b : Byte) (occ : BitVec 1), ⟨track, scene⟩ ∈ Subs.dom s.subs →
      s.win.trackOffset.toNat ≤ track.toNat → track.toNat < s.win.trackOffset.toNat + s.cfg.gridW.toNat →
      s.win.sceneOffset.toNat ≤ scene.toNat → scene.toNat < s.win.sceneOffset.toNat + s.cfg.gridH.toNat →
      exec (.cellupdate track scene r g b occ) s = .refused .coalescerFull)
    ∧ (∀ (cmd : Byte) (seq : Septet) (payload : Bytes), payloadOk payload = true → s.accepts cmd payload.length →
      s.conn ≠ .connected → ReceptionAnswers cmd seq payload s (.refused .coalescerFull))
    ∧ (∀ i : Instr, windowOps i → exec i s = .next s ∨ exec i s = .refused .coalescerFull)

/-- R63, R169. Queueing the same arguments twice leaves the state queueing them once leaves, but for a repeated
report. -/
def Obligations.QueueTwiceIsQueueOnce : Prop :=
  ∀ (s t : State) (cmd : Byte) (key : Word14) (payload : Bytes) (prio : Byte),
    exec (.queue cmd key payload prio) s = .next t →
    ∃ reports, exec (.queue cmd key payload prio) t = .next { t with out := t.out ++ reports }

/-- R168 with R166. FORCEFLUSH empties the table and emits one frame per slot, highest tier first and ties in insertion
order, with consecutive sequence numbers; nothing else changes. -/
def Obligations.ForceflushDrainsByPriority : Prop :=
  ∀ (s : State), ∃ order, EmissionOrder s.slots order
    ∧ exec .forceflush s = .next { s with
        slots := []
        txSeq := s.txSeq + BitVec.ofNat 7 order.length
        out := s.out ++ framesFrom s.txSeq order }

/-- R167 with R166. FLUSH drains the table and records its time if no timed flush has passed yet or `T_FLUSH_MIN` has gone
by; otherwise it changes nothing. -/
def Obligations.FlushPassesTheRateGate : Prop :=
  ∀ (s : State) (now : Nat),
    (s.lastFlush = none ∨ (∃ t, s.lastFlush = some t ∧ t + s.cfg.tFlushMin ≤ now) →
      ∃ order, EmissionOrder s.slots order
        ∧ exec (.flush now) s = .next { s with
            slots := []
            lastFlush := some now
            txSeq := s.txSeq + BitVec.ofNat 7 order.length
            out := s.out ++ framesFrom s.txSeq order })
    ∧ (∀ t, s.lastFlush = some t → now < t + s.cfg.tFlushMin → exec (.flush now) s = .next s)

/-- R169. For any run of QUEUE events from an empty table, the drain that follows emits, for each address, exactly one
frame with the last payload queued under it, and none for an address that was not queued. -/
def Obligations.DrainEmitsTheLastPayloadOnce : Prop :=
  ∀ (s t : State) (calls : List (Byte × Word14 × Bytes × Byte)), s.slots = [] →
    (∀ q ∈ calls, payloadOk q.2.2.1 = true) →
    execList (calls.map (fun q => .queue q.1 q.2.1 q.2.2.1 q.2.2.2)) s = .next t →
    ∃ order, exec .forceflush t = .next { t with
        slots := []
        txSeq := t.txSeq + BitVec.ofNat 7 order.length
        out := t.out ++ framesFrom t.txSeq order }
      ∧ ∀ (cmd : Byte) (key : Word14),
        (order.filter (fun x => x.cmd == cmd && x.key == key)).map (·.payload)
          = (((calls.filter (fun q => q.1 == cmd && q.2.1 == key)).map (fun q => q.2.2.1)).getLast?).toList

/-- R170. QUEUE, FLUSH and FORCEFLUSH do the same whatever the connection state is, and leave it as it is. -/
def Obligations.CoalescerIgnoresTheConnection : Prop :=
  ∀ (s : State) (c : Conn) (i : Instr),
    ((∃ cmd key payload prio, i = .queue cmd key payload prio) ∨ (∃ now, i = .flush now) ∨ i = .forceflush) →
    (∀ t, exec i s = .next t → exec i { s with conn := c } = .next { t with conn := c })
    ∧ (∀ r, exec i s = .refused r → exec i { s with conn := c } = .refused r)

/-! ## SessionRingTracker -/

/-- R182 to R185. Each navigation moves one axis by one and clamps both; subtraction of naturals stops at 0. -/
def Obligations.NavigationMovesOneAndClamps : Prop :=
  ∀ (s : State) (dir : Instr) (t' s' : Nat),
    (dir = .navleft ∧ t' = s.win.trackOffset.toNat - 1 ∧ s' = s.win.sceneOffset.toNat)
      ∨ (dir = .navright ∧ t' = s.win.trackOffset.toNat + 1 ∧ s' = s.win.sceneOffset.toNat)
      ∨ (dir = .navup ∧ t' = s.win.trackOffset.toNat ∧ s' = s.win.sceneOffset.toNat - 1)
      ∨ (dir = .navdown ∧ t' = s.win.trackOffset.toNat ∧ s' = s.win.sceneOffset.toNat + 1) →
    MovesWindowTo dir s { s.win with
      trackOffset := BitVec.ofNat 14 (min t' (s.win.totalTracks.toNat - s.win.width.toNat))
      sceneOffset := BitVec.ofNat 14 (min s' (s.win.totalScenes.toNat - s.win.height.toNat)) }

/-- R186. FOLLOW moves each axis onto the position's near edge, or not at all where the position is inside, and
clamps. -/
def Obligations.FollowMovesToTheNearEdge : Prop :=
  ∀ (s : State) (track scene : Word14),
    MovesWindowTo (.follow track scene) s { s.win with
      trackOffset := BitVec.ofNat 14 (min (followAxis track.toNat s.win.trackOffset.toNat s.win.width.toNat)
        (s.win.totalTracks.toNat - s.win.width.toNat))
      sceneOffset := BitVec.ofNat 14 (min (followAxis scene.toNat s.win.sceneOffset.toNat s.win.height.toNat)
        (s.win.totalScenes.toNat - s.win.height.toNat)) }

/-- R186, "the minimal offset shift that brings it back inside the window". For a position of the session, from a window
within its bounds that fits the session: after FOLLOW the window shows the position, and no window at all that shows it
on either axis is nearer to the old one on that axis. -/
def Obligations.FollowIsTheLeastShift : Prop :=
  ∀ (s t : State) (track scene : Word14), s.WindowInv →
    1 ≤ s.win.width.toNat → s.win.width.toNat ≤ s.win.totalTracks.toNat →
    1 ≤ s.win.height.toNat → s.win.height.toNat ≤ s.win.totalScenes.toNat →
    track.toNat < s.win.totalTracks.toNat → scene.toNat < s.win.totalScenes.toNat →
    exec (.follow track scene) s = .next t →
    isVisible t.win ⟨track, scene⟩ = true
    ∧ (∀ o : Nat, o ≤ track.toNat → track.toNat < o + s.win.width.toNat →
        ((t.win.trackOffset.toNat : Int) - s.win.trackOffset.toNat).natAbs
          ≤ ((o : Int) - s.win.trackOffset.toNat).natAbs)
    ∧ (∀ o : Nat, o ≤ scene.toNat → scene.toNat < o + s.win.height.toNat →
        ((t.win.sceneOffset.toNat : Int) - s.win.sceneOffset.toNat).natAbs
          ≤ ((o : Int) - s.win.sceneOffset.toNat).natAbs)

/-- R189, R190. SETTOTALS writes both totals and SETOVERVIEW the mode; both clamp the offsets at once. -/
def Obligations.WindowSettersWriteAndClamp : Prop :=
  ∀ (s : State),
    (∀ tracks scenes : Word14, MovesWindowTo (.settotals tracks scenes) s { s.win with
      totalTracks := tracks
      totalScenes := scenes
      trackOffset := BitVec.ofNat 14 (min s.win.trackOffset.toNat (tracks.toNat - s.win.width.toNat))
      sceneOffset := BitVec.ofNat 14 (min s.win.sceneOffset.toNat (scenes.toNat - s.win.height.toNat)) })
    ∧ (∀ on : BitVec 1, MovesWindowTo (.setoverview on) s { s.win with
      overviewMode := decide (on = 1)
      trackOffset := BitVec.ofNat 14 (min s.win.trackOffset.toNat (s.win.totalTracks.toNat - s.win.width.toNat))
      sceneOffset := BitVec.ofNat 14 (min s.win.sceneOffset.toNat (s.win.totalScenes.toNat - s.win.height.toNat)) })

/-- R192. After every window operation, from any start state, both offsets lie between 0 and
`max(0, total - size)`. -/
def Obligations.WindowOperationsLeaveOffsetsInBounds : Prop :=
  ∀ (s t : State) (i : Instr), windowOps i → exec i s = .next t →
    t.win.trackOffset.toNat ≤ t.win.totalTracks.toNat - t.win.width.toNat
    ∧ t.win.sceneOffset.toNat ≤ t.win.totalScenes.toNat - t.win.height.toNat

/-- R191 with R181, R193 and R203, for a window of the configured size. A window operation that changes the window emits
`WINDOWCHANGED`, one `UNSUBSCRIBE` for each cell that left, one `SUBSCRIBE` for each that entered and one `GETVALUE` for
each visible cell, each in ascending (scene, track) order; afterwards the subscribed cells are the visible ones, a cell
in both sets keeps its handle, and the k-th cell that entered has the k-th answer drawn (how answers are drawn and
counted, the clauses that name `draws`, is the model's, log 4). -/
def Obligations.WindowChangeResubscribes : Prop :=
  ∀ (s t : State) (i : Instr), windowOps i → exec i s = .next t → t.win ≠ s.win → Subs.wf s.subs →
    s.win.width = s.cfg.gridW → s.win.height = s.cfg.gridH → s.cfg.geometryOk = true →
    let left := s.subs.filter (fun e => !isVisible t.win e.1)
    let entered := (visibleCells t.win).filter (fun c => !(Subs.dom s.subs).contains c)
    t.out = s.out ++ [.windowChanged t.win] ++ left.map (fun e => .unsubscribe e.2) ++ entered.map .subscribe
        ++ (visibleCells t.win).map .getValue ++ tierReport s s.cfg.prioGrid
    ∧ Subs.wf t.subs
    ∧ (∀ c, c ∈ Subs.dom t.subs ↔ isVisible t.win c = true)
    ∧ (∀ c, c ∈ Subs.dom s.subs → isVisible t.win c = true → Subs.read t.subs c = Subs.read s.subs c)
    ∧ (∀ k c, entered[k]? = some c → Subs.read t.subs c = some (Config.subscribeAnswer (s.draws + k)))
    ∧ t.draws = s.draws + entered.length + (visibleCells t.win).length

/-- R203. After a window change every pad of the grid holds the state source's answer for its cell, the answers in pad
order after those for the subscriptions, or is black where it shows no visible cell. -/
def Obligations.WindowChangeReloadsTheGrid : Prop :=
  ∀ (s t : State) (i : Instr), windowOps i → exec i s = .next t → t.win ≠ s.win →
    let entered := (visibleCells t.win).filter (fun c => !(Subs.dom s.subs).contains c)
    let shows := fun p => decide (p < t.cfg.gridW.toNat * t.cfg.gridH.toNat)
      && showsAt t.win (t.win.trackOffset.toNat + p % t.cfg.gridW.toNat) (t.win.sceneOffset.toNat + p / t.cfg.gridW.toNat)
    ∀ p : Fin 32, t.grid[p] = if shows p.val then
        Config.getValueAnswer (s.draws + entered.length + ((List.range p.val).filter shows).length)
      else ⟨0, 0, 0, false⟩

/-- R204, R205. A window change, and an update of a cell that is written, queue the whole grid, as RENDER gives it in
the state they leave, under the grid's one address, and touch no other slot; where `slots` holds one slot an address it
is the only grid slot. -/
def Obligations.GridChangesQueueTheWholeGrid : Prop :=
  ∀ (s t : State) (i : Instr), exec i s = .next t →
    (windowOps i ∨ ∃ track scene r g b occ, i = .cellupdate track scene r g b occ) → (t.win ≠ s.win ∨ t.grid ≠ s.grid) →
    ∃ pads, exec .render t = .next { t with out := t.out ++ [.result (.bytes pads)] }
      ∧ Upserted ⟨t.cfg.cmdGrid, 0, pads, min t.cfg.prioGrid.toNat (t.cfg.nPrio - 1)⟩ s.slots t.slots
      ∧ ((s.slots.map (fun x => (x.cmd, x.key))).Nodup →
          t.slots.filter (fun x => x.cmd == t.cfg.cmdGrid && x.key == 0)
            = [⟨t.cfg.cmdGrid, 0, pads, min t.cfg.prioGrid.toNat (t.cfg.nPrio - 1)⟩])

/-- R187. TOABS adds the window's offsets to the ring position, clamped to the last column and row, and reports the
clamp. -/
def Obligations.ToabsAddsTheOffsets : Prop :=
  ∀ (s : State) (rt rs : Septet), 1 ≤ s.win.width.toNat → 1 ≤ s.win.height.toNat →
    exec (.toabs rt rs) s = .next { s with
      out := s.out
        ++ (if rt.toNat < s.win.width.toNat ∧ rs.toNat < s.win.height.toNat then [] else [.status .rangeClamped])
        ++ [.result (.position (s.win.trackOffset.toNat + min rt.toNat (s.win.width.toNat - 1))
              (s.win.sceneOffset.toNat + min rs.toNat (s.win.height.toNat - 1)))] }

/-- R188. TORING gives the ring position of a session position in the window's rectangle and none outside it; for a
position in the rectangle TOABS of the ring position is the position again. -/
def Obligations.ToringInvertsToabs : Prop :=
  ∀ (s : State) (track scene : Word14),
    ((s.win.trackOffset.toNat ≤ track.toNat ∧ track.toNat < s.win.trackOffset.toNat + s.win.width.toNat
        ∧ s.win.sceneOffset.toNat ≤ scene.toNat ∧ scene.toNat < s.win.sceneOffset.toNat + s.win.height.toNat) →
      ∃ rt rs : Septet, rt.toNat = track.toNat - s.win.trackOffset.toNat
        ∧ rs.toNat = scene.toNat - s.win.sceneOffset.toNat
        ∧ exec (.toring track scene) s = .next { s with
            out := s.out ++ [.result (.ring (some (rt.toNat, rs.toNat)))] }
        ∧ exec (.toabs rt rs) s = .next { s with
            out := s.out ++ [.result (.position track.toNat scene.toNat)] })
    ∧ (¬ (s.win.trackOffset.toNat ≤ track.toNat ∧ track.toNat < s.win.trackOffset.toNat + s.win.width.toNat
        ∧ s.win.sceneOffset.toNat ≤ scene.toNat ∧ scene.toNat < s.win.sceneOffset.toNat + s.win.height.toNat) →
      exec (.toring track scene) s = .next { s with out := s.out ++ [.result (.ring none)] })

/-! ## GridStateSynchronizer -/

/-- R200. CELLUPDATE of a subscribed cell inside the window writes its one pad and queues the whole grid, and leaves
every other pad and element alone; any other notification changes nothing. -/
def Obligations.CellupdateWritesOnePad : Prop :=
  ∀ (s : State) (track scene : Word14) (r g b : Byte) (occ : BitVec 1), s.cfg.geometryOk = true →
    let inside := s.win.trackOffset.toNat ≤ track.toNat ∧ track.toNat < s.win.trackOffset.toNat + s.cfg.gridW.toNat
      ∧ s.win.sceneOffset.toNat ≤ scene.toNat ∧ scene.toNat < s.win.sceneOffset.toNat + s.cfg.gridH.toNat
    let pad := (scene.toNat - s.win.sceneOffset.toNat) * s.cfg.gridW.toNat + (track.toNat - s.win.trackOffset.toNat)
    ((⟨track, scene⟩ ∈ Subs.dom s.subs ∧ inside) → s.roomForGrid →
      ∃ grid queued, grid[pad]? = some ⟨r, g, b, decide (occ = 1)⟩
        ∧ (∀ q : Nat, q ≠ pad → grid[q]? = s.grid[q]?)
        ∧ Upserted (gridSlot { s with grid := grid }) s.slots queued
        ∧ exec (.cellupdate track scene r g b occ) s = .next { s with
            grid := grid
            slots := queued
            out := s.out ++ tierReport s s.cfg.prioGrid })
    ∧ (¬ (⟨track, scene⟩ ∈ Subs.dom s.subs ∧ inside) → exec (.cellupdate track scene r g b occ) s = .next s)

/-- R201. RENDER gives 192 bytes of at most 0x7F, six a pad: the pad's colour, or in overview mode the colour blended for
pads that meet the viewport, each channel as quotient and remainder by 128; it changes no state. -/
def Obligations.RenderGivesSixBytesAPad : Prop :=
  ∀ (s : State), ∃ bytes : Bytes,
    exec .render s = .next { s with out := s.out ++ [.result (.bytes bytes)] }
    ∧ bytes.length = 192 ∧ (∀ x ∈ bytes, x.toNat ≤ 127)
    ∧ ∀ i : Fin 32,
        let c : Color := if s.win.overviewMode = true ∧ Config.ovIntersects i.val s.win = true
          then Config.highlight s.grid[i].color else s.grid[i].color
        (bytes.drop (6 * i.val)).take 6
          = [BitVec.ofNat 8 (c.r.toNat / 128), BitVec.ofNat 8 (c.r.toNat % 128),
             BitVec.ofNat 8 (c.g.toNat / 128), BitVec.ofNat 8 (c.g.toNat % 128),
             BitVec.ofNat 8 (c.b.toNat / 128), BitVec.ofNat 8 (c.b.toNat % 128)]

/-- R202. BLEND gives the colour itself outside the viewport and the highlight of it inside, whatever the parameter
is. -/
def Obligations.BlendHighlightsOnlyTheViewport : Prop :=
  ∀ (s : State) (r g b : Byte),
    exec (.blend r g b 0) s = .next { s with out := s.out ++ [.result (.color ⟨r, g, b⟩)] }
    ∧ exec (.blend r g b 1) s = .next { s with out := s.out ++ [.result (.color (Config.highlight ⟨r, g, b⟩))] }

/-! ## The machine as a whole -/

/-- R17, R67. A step takes the oldest presented item and runs the instruction it decodes to. -/
def Obligations.StepRunsTheDecodedInstruction : Prop :=
  ∀ (s : State) (item : PortItem) (rest : List PortItem) (i : Instr),
    s.port = item :: rest → decode s.cfg item = .ok i → i.wf = true →
    Sys2Proof.Machine.step s = exec i { s with port := rest }

/-- R240. With nothing presented a step changes nothing. -/
def Obligations.StepHoldsTheStateBetweenEvents : Prop :=
  ∀ (s : State), s.port = [] → Sys2Proof.Machine.step s = .next s

/-- R100, R91. A step refuses, by name, a record whose opcode is not in the opcode map. -/
def Obligations.StepRefusesAnUnlistedOpcode : Prop :=
  ∀ (s : State) (op : Byte) (operands : List Operand) (rest : List PortItem),
    s.port = .event ⟨op, operands⟩ :: rest →
    op.toNat ∉ [0x01, 0x02, 0x03, 0x04, 0x10, 0x11, 0x18, 0x20, 0x21, 0x22, 0x23, 0x30, 0x31, 0x32, 0x40, 0x41, 0x42,
      0x43, 0x44, 0x45, 0x46, 0x47, 0x48, 0x50, 0x51, 0x52] →
    Sys2Proof.Machine.step s = .refused (.noEvent (.unknownOpcode op))

/-- R91, R80: words written out from the spec's encodings decode to the instructions they stand for, whatever the
configuration; the handshake's byte is the one every configuration has. -/
def Obligations.WrittenOutItemsDecode : Prop :=
  ∀ c : Config,
    decode c (.event ⟨0x01, [.field 16 1000]⟩) = .ok (.enc14 1000)
    ∧ decode c (.event ⟨0x30, [.field 8 0x21, .field 14 2, .bytes [0x1E], .field 8 1]⟩) = .ok (.queue 0x21 2 [0x1E] 1)
    ∧ decode c (.event ⟨0x44, [.field 14 6, .field 14 0]⟩) = .ok (.follow 6 0)
    ∧ decode c (.event ⟨0x50, [.field 14 5, .field 14 1, .field 8 255, .field 8 0, .field 8 128, .field 1 1]⟩)
        = .ok (.cellupdate 5 1 255 0 128 1)
    ∧ decode c (.frame [0xF0, 0x7F, 0x00, 0x7F, 0x60, 0x02, 0x00, 0x02, 0x50, 0x43, 0x71, 0xF7])
        = .ok (.cmdHandshake 2 [0x50, 0x43])

/-- Decoding what the encoder gives for a well-formed instruction gives the instruction, with every operand, under every
configuration whose five command bytes differ: two commands with one byte are one frame (that premise is the model's,
log 10). -/
def Obligations.DecodeOfEncodeIsTheInstruction : Prop :=
  ∀ (c : Config) (i : Instr), c.commandsDistinct = true → i.wf = true → decode c (encode c i) = .ok i

/-- The other way, under every configuration: what decodes to an instruction is what the encoder gives for it, except
that the transport's delivery of a buffer that is no wire command of the configuration is the event RXFRAME on that
buffer (log 10). -/
def Obligations.DecodedItemIsTheEncoding : Prop :=
  ∀ (c : Config) (item : PortItem) (i : Instr), decode c item = .ok i →
    i.wf = true ∧ (encode c i = item
      ∨ ∃ buf, item = .frame buf ∧ i = .rxframe buf
          ∧ ∀ j : Instr, (∀ b, j ≠ .rxframe b) → j.wf = true → encode c j ≠ item)

/-- R35. From every state that meets the invariant of the reachable states, a step that answers gives a state that meets
it. -/
def Obligations.EveryStepKeepsTheInvariant : Prop :=
  ∀ s t : State, s.Inv → Sys2Proof.Machine.step s = .next t → t.Inv

/-- R35. The reset state meets the invariant, for every well-formed configuration; the machine's own is well formed (that
it is the defaults of R5 and R6 is the model's choice, log 5). -/
def Obligations.ResetMeetsTheInvariant : Prop :=
  (∀ c : Config, c.wf = true → (State.resetWith c).Inv) ∧ State.reset.Inv

/-- R29. No step writes the configuration. -/
def Obligations.NoStepWritesTheConfiguration : Prop :=
  ∀ s t : State, Sys2Proof.Machine.step s = .next t → t.cfg = s.cfg

/-- R155 with R145. The only ways out of `Connected` are TEARDOWN and LINKINIT, and both leave `Disconnected`. -/
def Obligations.OnlyTeardownAndLinkinitLeaveConnected : Prop :=
  ∀ (s t : State) (i : Instr), s.conn = .connected → exec i s = .next t → t.conn ≠ .connected →
    (i = .teardown ∨ i = .linkinit) ∧ t.conn = .disconnected

/-- R145, R148. The only ways into `Connected` are the receptions of a buffer, and the timer is then cancelled. -/
def Obligations.OnlyReceptionsConnect : Prop :=
  ∀ (s t : State) (i : Instr), s.conn ≠ .connected → exec i s = .next t → t.conn = .connected →
    receptions i ∧ t.retryArmed = false

/-- R154, R21. No instruction enters `AwaitingReply`. -/
def Obligations.NothingEntersAwaitingReply : Prop :=
  ∀ (s t : State) (i : Instr), exec i s = .next t → t.conn = .awaitingReply → s.conn = .awaitingReply

/-- R33. The trace only grows: no event takes an output back or puts one before an earlier one. -/
def Obligations.TheTraceOnlyGrows : Prop :=
  ∀ (s t : State) (i : Instr), exec i s = .next t → ∃ new, t.out = s.out ++ new

/-- R125, R23. Every frame an event transmits carries the next sequence number, in order, and the counter advances by
their number modulo 128; LINKINIT, which sets the counter, emits nothing at all. -/
def Obligations.FramesCarryConsecutiveSequenceNumbers : Prop :=
  ∀ (s t : State) (i : Instr), exec i s = .next t →
    ∃ (new : List Output) (frames : List Slot), t.out = s.out ++ new
      ∧ new.filter Output.isTx = framesFrom s.txSeq frames
      ∧ (t.txSeq = if i = .linkinit then 0 else s.txSeq + BitVec.ofNat 7 frames.length)
      ∧ (i = .linkinit → new = [])

/-- R37. Each of the eight state elements is written only by the instructions of its owner, and by LINKINIT. The clauses
on `draws` and `port` are about the model's own fields (logs 4 and 2). -/
def Obligations.EachElementHasItsWriters : Prop :=
  ∀ (s t : State) (i : Instr), exec i s = .next t → i ≠ .linkinit →
    (¬ receptions i → i ≠ .teardown → t.conn = s.conn ∧ t.retryArmed = s.retryArmed)
    ∧ (¬ receptions i → i ≠ .tickretry → i ≠ .teardown → (∀ now, i ≠ .flush now) → i ≠ .forceflush →
        t.txSeq = s.txSeq)
    ∧ (¬ windowOps i → t.win = s.win ∧ t.subs = s.subs ∧ t.draws = s.draws)
    ∧ (¬ windowOps i → (∀ track scene r g b occ, i ≠ .cellupdate track scene r g b occ) → t.grid = s.grid)
    ∧ ((∀ now, i ≠ .flush now) → t.lastFlush = s.lastFlush)
    ∧ (¬ windowOps i → ¬ receptions i → (∀ track scene r g b occ, i ≠ .cellupdate track scene r g b occ) →
        (∀ cmd key p prio, i ≠ .queue cmd key p prio) → (∀ now, i ≠ .flush now) → i ≠ .forceflush → t.slots = s.slots)
    ∧ t.port = s.port

/-- R193. The state source is called only by the window operations. -/
def Obligations.OnlyWindowOperationsCallTheSource : Prop :=
  ∀ (s t : State) (i : Instr), exec i s = .next t → ¬ windowOps i →
    ∃ new, t.out = s.out ++ new ∧ ∀ o ∈ new, o.isSourceCall = false

/-- R222, R228. Whatever the event, if it reports an error (any condition but `RangeClamped`) the report is all it
does. -/
def Obligations.ErrorsLeaveTheStateAsItWas : Prop :=
  ∀ (s t : State) (i : Instr) (new : List Output) (c : StatusCode), exec i s = .next t → t.out = s.out ++ new →
    .status c ∈ new → c ≠ .rangeClamped → t = { s with out := s.out ++ [.status c] }

/-- R266, R267. Where the surrounding software and the transport keep their duties (seven-bit payloads, received buffers
with seven-bit bytes between the command and the last byte, room in the slot table), every instruction answers a next
state. -/
def Obligations.EveryEventCompletesUnderTheHostsDuties : Prop :=
  ∀ (s : State) (i : Instr), i.wf = true → s.roomForGrid →
    (∀ cmd seq p, i = .fenc cmd seq p → ∀ b ∈ p, b.toNat ≤ 127) →
    (∀ cmd key p prio, i = .queue cmd key p prio → (∀ b ∈ p, b.toNat ≤ 127) ∧ s.roomFor cmd key) →
    (∀ buf, i = .fdec buf ∨ i = .rxframe buf →
      ∀ k b, buf[k]? = some b → 5 ≤ k → k + 1 < buf.length → b.toNat ≤ 127) →
    ∃ t, exec i s = .next t
end

