-- ==== Sys2Proof/Laws/State.lean ====
section
/-! SUPPORT. One lemma per field per update of the state, true by rfl, so that no later proof unfolds a record update. -/

namespace Sys2Proof.Machine

/-! ## putConn -/

@[simp] theorem putConn_conn (s : State) (c : Conn) : (s.putConn c).conn = c := rfl
@[simp] theorem putConn_retryArmed (s : State) (c : Conn) : (s.putConn c).retryArmed = s.retryArmed := rfl
@[simp] theorem putConn_txSeq (s : State) (c : Conn) : (s.putConn c).txSeq = s.txSeq := rfl
@[simp] theorem putConn_grid (s : State) (c : Conn) : (s.putConn c).grid = s.grid := rfl
@[simp] theorem putConn_win (s : State) (c : Conn) : (s.putConn c).win = s.win := rfl
@[simp] theorem putConn_slots (s : State) (c : Conn) : (s.putConn c).slots = s.slots := rfl
@[simp] theorem putConn_lastFlush (s : State) (c : Conn) : (s.putConn c).lastFlush = s.lastFlush := rfl
@[simp] theorem putConn_subs (s : State) (c : Conn) : (s.putConn c).subs = s.subs := rfl
@[simp] theorem putConn_cfg (s : State) (c : Conn) : (s.putConn c).cfg = s.cfg := rfl
@[simp] theorem putConn_port (s : State) (c : Conn) : (s.putConn c).port = s.port := rfl
@[simp] theorem putConn_out (s : State) (c : Conn) : (s.putConn c).out = s.out := rfl
@[simp] theorem putConn_draws (s : State) (c : Conn) : (s.putConn c).draws = s.draws := rfl

/-! ## putRetryArmed -/

@[simp] theorem putRetryArmed_conn (s : State) (b : Bool) : (s.putRetryArmed b).conn = s.conn := rfl
@[simp] theorem putRetryArmed_retryArmed (s : State) (b : Bool) : (s.putRetryArmed b).retryArmed = b := rfl
@[simp] theorem putRetryArmed_txSeq (s : State) (b : Bool) : (s.putRetryArmed b).txSeq = s.txSeq := rfl
@[simp] theorem putRetryArmed_grid (s : State) (b : Bool) : (s.putRetryArmed b).grid = s.grid := rfl
@[simp] theorem putRetryArmed_win (s : State) (b : Bool) : (s.putRetryArmed b).win = s.win := rfl
@[simp] theorem putRetryArmed_slots (s : State) (b : Bool) : (s.putRetryArmed b).slots = s.slots := rfl
@[simp] theorem putRetryArmed_lastFlush (s : State) (b : Bool) : (s.putRetryArmed b).lastFlush = s.lastFlush := rfl
@[simp] theorem putRetryArmed_subs (s : State) (b : Bool) : (s.putRetryArmed b).subs = s.subs := rfl
@[simp] theorem putRetryArmed_cfg (s : State) (b : Bool) : (s.putRetryArmed b).cfg = s.cfg := rfl
@[simp] theorem putRetryArmed_port (s : State) (b : Bool) : (s.putRetryArmed b).port = s.port := rfl
@[simp] theorem putRetryArmed_out (s : State) (b : Bool) : (s.putRetryArmed b).out = s.out := rfl
@[simp] theorem putRetryArmed_draws (s : State) (b : Bool) : (s.putRetryArmed b).draws = s.draws := rfl

/-! ## nextSeq -/

@[simp] theorem nextSeq_conn (s : State) : (s.nextSeq).conn = s.conn := rfl
@[simp] theorem nextSeq_retryArmed (s : State) : (s.nextSeq).retryArmed = s.retryArmed := rfl
@[simp] theorem nextSeq_txSeq (s : State) : (s.nextSeq).txSeq = s.txSeq + 1 := rfl
@[simp] theorem nextSeq_grid (s : State) : (s.nextSeq).grid = s.grid := rfl
@[simp] theorem nextSeq_win (s : State) : (s.nextSeq).win = s.win := rfl
@[simp] theorem nextSeq_slots (s : State) : (s.nextSeq).slots = s.slots := rfl
@[simp] theorem nextSeq_lastFlush (s : State) : (s.nextSeq).lastFlush = s.lastFlush := rfl
@[simp] theorem nextSeq_subs (s : State) : (s.nextSeq).subs = s.subs := rfl
@[simp] theorem nextSeq_cfg (s : State) : (s.nextSeq).cfg = s.cfg := rfl
@[simp] theorem nextSeq_port (s : State) : (s.nextSeq).port = s.port := rfl
@[simp] theorem nextSeq_out (s : State) : (s.nextSeq).out = s.out := rfl
@[simp] theorem nextSeq_draws (s : State) : (s.nextSeq).draws = s.draws := rfl

/-! ## putCell -/

@[simp] theorem putCell_conn (s : State) (p : Nat) (c : GridCell) : (s.putCell p c).conn = s.conn := rfl
@[simp] theorem putCell_retryArmed (s : State) (p : Nat) (c : GridCell) : (s.putCell p c).retryArmed = s.retryArmed := rfl
@[simp] theorem putCell_txSeq (s : State) (p : Nat) (c : GridCell) : (s.putCell p c).txSeq = s.txSeq := rfl
@[simp] theorem putCell_grid (s : State) (p : Nat) (c : GridCell) : (s.putCell p c).grid = s.grid.setIfInBounds p c := rfl
@[simp] theorem putCell_win (s : State) (p : Nat) (c : GridCell) : (s.putCell p c).win = s.win := rfl
@[simp] theorem putCell_slots (s : State) (p : Nat) (c : GridCell) : (s.putCell p c).slots = s.slots := rfl
@[simp] theorem putCell_lastFlush (s : State) (p : Nat) (c : GridCell) : (s.putCell p c).lastFlush = s.lastFlush := rfl
@[simp] theorem putCell_subs (s : State) (p : Nat) (c : GridCell) : (s.putCell p c).subs = s.subs := rfl
@[simp] theorem putCell_cfg (s : State) (p : Nat) (c : GridCell) : (s.putCell p c).cfg = s.cfg := rfl
@[simp] theorem putCell_port (s : State) (p : Nat) (c : GridCell) : (s.putCell p c).port = s.port := rfl
@[simp] theorem putCell_out (s : State) (p : Nat) (c : GridCell) : (s.putCell p c).out = s.out := rfl
@[simp] theorem putCell_draws (s : State) (p : Nat) (c : GridCell) : (s.putCell p c).draws = s.draws := rfl

/-! ## putWin -/

@[simp] theorem putWin_conn (s : State) (w : RingWindow) : (s.putWin w).conn = s.conn := rfl
@[simp] theorem putWin_retryArmed (s : State) (w : RingWindow) : (s.putWin w).retryArmed = s.retryArmed := rfl
@[simp] theorem putWin_txSeq (s : State) (w : RingWindow) : (s.putWin w).txSeq = s.txSeq := rfl
@[simp] theorem putWin_grid (s : State) (w : RingWindow) : (s.putWin w).grid = s.grid := rfl
@[simp] theorem putWin_win (s : State) (w : RingWindow) : (s.putWin w).win = w := rfl
@[simp] theorem putWin_slots (s : State) (w : RingWindow) : (s.putWin w).slots = s.slots := rfl
@[simp] theorem putWin_lastFlush (s : State) (w : RingWindow) : (s.putWin w).lastFlush = s.lastFlush := rfl
@[simp] theorem putWin_subs (s : State) (w : RingWindow) : (s.putWin w).subs = s.subs := rfl
@[simp] theorem putWin_cfg (s : State) (w : RingWindow) : (s.putWin w).cfg = s.cfg := rfl
@[simp] theorem putWin_port (s : State) (w : RingWindow) : (s.putWin w).port = s.port := rfl
@[simp] theorem putWin_out (s : State) (w : RingWindow) : (s.putWin w).out = s.out := rfl
@[simp] theorem putWin_draws (s : State) (w : RingWindow) : (s.putWin w).draws = s.draws := rfl

/-! ## putSlots -/

@[simp] theorem putSlots_conn (s : State) (l : List Slot) : (s.putSlots l).conn = s.conn := rfl
@[simp] theorem putSlots_retryArmed (s : State) (l : List Slot) : (s.putSlots l).retryArmed = s.retryArmed := rfl
@[simp] theorem putSlots_txSeq (s : State) (l : List Slot) : (s.putSlots l).txSeq = s.txSeq := rfl
@[simp] theorem putSlots_grid (s : State) (l : List Slot) : (s.putSlots l).grid = s.grid := rfl
@[simp] theorem putSlots_win (s : State) (l : List Slot) : (s.putSlots l).win = s.win := rfl
@[simp] theorem putSlots_slots (s : State) (l : List Slot) : (s.putSlots l).slots = l := rfl
@[simp] theorem putSlots_lastFlush (s : State) (l : List Slot) : (s.putSlots l).lastFlush = s.lastFlush := rfl
@[simp] theorem putSlots_subs (s : State) (l : List Slot) : (s.putSlots l).subs = s.subs := rfl
@[simp] theorem putSlots_cfg (s : State) (l : List Slot) : (s.putSlots l).cfg = s.cfg := rfl
@[simp] theorem putSlots_port (s : State) (l : List Slot) : (s.putSlots l).port = s.port := rfl
@[simp] theorem putSlots_out (s : State) (l : List Slot) : (s.putSlots l).out = s.out := rfl
@[simp] theorem putSlots_draws (s : State) (l : List Slot) : (s.putSlots l).draws = s.draws := rfl

/-! ## putLastFlush -/

@[simp] theorem putLastFlush_conn (s : State) (t : Nat) : (s.putLastFlush t).conn = s.conn := rfl
@[simp] theorem putLastFlush_retryArmed (s : State) (t : Nat) : (s.putLastFlush t).retryArmed = s.retryArmed := rfl
@[simp] theorem putLastFlush_txSeq (s : State) (t : Nat) : (s.putLastFlush t).txSeq = s.txSeq := rfl
@[simp] theorem putLastFlush_grid (s : State) (t : Nat) : (s.putLastFlush t).grid = s.grid := rfl
@[simp] theorem putLastFlush_win (s : State) (t : Nat) : (s.putLastFlush t).win = s.win := rfl
@[simp] theorem putLastFlush_slots (s : State) (t : Nat) : (s.putLastFlush t).slots = s.slots := rfl
@[simp] theorem putLastFlush_lastFlush (s : State) (t : Nat) : (s.putLastFlush t).lastFlush = some t := rfl
@[simp] theorem putLastFlush_subs (s : State) (t : Nat) : (s.putLastFlush t).subs = s.subs := rfl
@[simp] theorem putLastFlush_cfg (s : State) (t : Nat) : (s.putLastFlush t).cfg = s.cfg := rfl
@[simp] theorem putLastFlush_port (s : State) (t : Nat) : (s.putLastFlush t).port = s.port := rfl
@[simp] theorem putLastFlush_out (s : State) (t : Nat) : (s.putLastFlush t).out = s.out := rfl
@[simp] theorem putLastFlush_draws (s : State) (t : Nat) : (s.putLastFlush t).draws = s.draws := rfl

/-! ## putSubs -/

@[simp] theorem putSubs_conn (s : State) (m : Subs) : (s.putSubs m).conn = s.conn := rfl
@[simp] theorem putSubs_retryArmed (s : State) (m : Subs) : (s.putSubs m).retryArmed = s.retryArmed := rfl
@[simp] theorem putSubs_txSeq (s : State) (m : Subs) : (s.putSubs m).txSeq = s.txSeq := rfl
@[simp] theorem putSubs_grid (s : State) (m : Subs) : (s.putSubs m).grid = s.grid := rfl
@[simp] theorem putSubs_win (s : State) (m : Subs) : (s.putSubs m).win = s.win := rfl
@[simp] theorem putSubs_slots (s : State) (m : Subs) : (s.putSubs m).slots = s.slots := rfl
@[simp] theorem putSubs_lastFlush (s : State) (m : Subs) : (s.putSubs m).lastFlush = s.lastFlush := rfl
@[simp] theorem putSubs_subs (s : State) (m : Subs) : (s.putSubs m).subs = m := rfl
@[simp] theorem putSubs_cfg (s : State) (m : Subs) : (s.putSubs m).cfg = s.cfg := rfl
@[simp] theorem putSubs_port (s : State) (m : Subs) : (s.putSubs m).port = s.port := rfl
@[simp] theorem putSubs_out (s : State) (m : Subs) : (s.putSubs m).out = s.out := rfl
@[simp] theorem putSubs_draws (s : State) (m : Subs) : (s.putSubs m).draws = s.draws := rfl

/-! ## emit -/

@[simp] theorem emit_conn (s : State) (o : Output) : (s.emit o).conn = s.conn := rfl
@[simp] theorem emit_retryArmed (s : State) (o : Output) : (s.emit o).retryArmed = s.retryArmed := rfl
@[simp] theorem emit_txSeq (s : State) (o : Output) : (s.emit o).txSeq = s.txSeq := rfl
@[simp] theorem emit_grid (s : State) (o : Output) : (s.emit o).grid = s.grid := rfl
@[simp] theorem emit_win (s : State) (o : Output) : (s.emit o).win = s.win := rfl
@[simp] theorem emit_slots (s : State) (o : Output) : (s.emit o).slots = s.slots := rfl
@[simp] theorem emit_lastFlush (s : State) (o : Output) : (s.emit o).lastFlush = s.lastFlush := rfl
@[simp] theorem emit_subs (s : State) (o : Output) : (s.emit o).subs = s.subs := rfl
@[simp] theorem emit_cfg (s : State) (o : Output) : (s.emit o).cfg = s.cfg := rfl
@[simp] theorem emit_port (s : State) (o : Output) : (s.emit o).port = s.port := rfl
@[simp] theorem emit_out (s : State) (o : Output) : (s.emit o).out = s.out ++ [o] := rfl
@[simp] theorem emit_draws (s : State) (o : Output) : (s.emit o).draws = s.draws := rfl

/-! ## countDraw -/

@[simp] theorem countDraw_conn (s : State) : (s.countDraw).conn = s.conn := rfl
@[simp] theorem countDraw_retryArmed (s : State) : (s.countDraw).retryArmed = s.retryArmed := rfl
@[simp] theorem countDraw_txSeq (s : State) : (s.countDraw).txSeq = s.txSeq := rfl
@[simp] theorem countDraw_grid (s : State) : (s.countDraw).grid = s.grid := rfl
@[simp] theorem countDraw_win (s : State) : (s.countDraw).win = s.win := rfl
@[simp] theorem countDraw_slots (s : State) : (s.countDraw).slots = s.slots := rfl
@[simp] theorem countDraw_lastFlush (s : State) : (s.countDraw).lastFlush = s.lastFlush := rfl
@[simp] theorem countDraw_subs (s : State) : (s.countDraw).subs = s.subs := rfl
@[simp] theorem countDraw_cfg (s : State) : (s.countDraw).cfg = s.cfg := rfl
@[simp] theorem countDraw_port (s : State) : (s.countDraw).port = s.port := rfl
@[simp] theorem countDraw_out (s : State) : (s.countDraw).out = s.out := rfl
@[simp] theorem countDraw_draws (s : State) : (s.countDraw).draws = s.draws + 1 := rfl

/-! ## putPort -/

@[simp] theorem putPort_conn (s : State) (l : List PortItem) : (s.putPort l).conn = s.conn := rfl
@[simp] theorem putPort_retryArmed (s : State) (l : List PortItem) : (s.putPort l).retryArmed = s.retryArmed := rfl
@[simp] theorem putPort_txSeq (s : State) (l : List PortItem) : (s.putPort l).txSeq = s.txSeq := rfl
@[simp] theorem putPort_grid (s : State) (l : List PortItem) : (s.putPort l).grid = s.grid := rfl
@[simp] theorem putPort_win (s : State) (l : List PortItem) : (s.putPort l).win = s.win := rfl
@[simp] theorem putPort_slots (s : State) (l : List PortItem) : (s.putPort l).slots = s.slots := rfl
@[simp] theorem putPort_lastFlush (s : State) (l : List PortItem) : (s.putPort l).lastFlush = s.lastFlush := rfl
@[simp] theorem putPort_subs (s : State) (l : List PortItem) : (s.putPort l).subs = s.subs := rfl
@[simp] theorem putPort_cfg (s : State) (l : List PortItem) : (s.putPort l).cfg = s.cfg := rfl
@[simp] theorem putPort_port (s : State) (l : List PortItem) : (s.putPort l).port = l := rfl
@[simp] theorem putPort_out (s : State) (l : List PortItem) : (s.putPort l).out = s.out := rfl
@[simp] theorem putPort_draws (s : State) (l : List PortItem) : (s.putPort l).draws = s.draws := rfl

end Sys2Proof.Machine
end

