-- ==== Sys2Proof/Laws/Codec.lean ====
section
/-! SUPPORT. The state-free operations: pairs, colours, frames and the checks on them. -/

namespace Sys2Proof

@[simp] theorem sevenBit_iff (b : Byte) : sevenBit b = true ↔ b.toNat ≤ 127 := by simp [sevenBit]

theorem allSevenBit_iff (p : Bytes) : allSevenBit p = true ↔ ∀ b ∈ p, b.toNat ≤ 127 := by
  simp [allSevenBit, List.all_eq_true]

@[simp] theorem allSevenBit_nil : allSevenBit [] = true := rfl

@[simp] theorem allSevenBit_append (p q : Bytes) : allSevenBit (p ++ q) = (allSevenBit p && allSevenBit q) := by
  simp [allSevenBit]

@[simp] theorem foldXor_nil : foldXor [] = 0 := rfl

@[simp] theorem foldXor_cons (b : Byte) (p : Bytes) : foldXor (b :: p) = b ^^^ foldXor p := rfl

theorem septetByte_toNat (v : Septet) : (septetByte v).toNat = v.toNat := by
  simp only [septetByte, BitVec.toNat_setWidth]; omega

theorem septetByte_sevenBit (v : Septet) : sevenBit (septetByte v) = true := by
  rw [sevenBit_iff, septetByte_toNat]; omega

@[simp] theorem enc14Bytes_length (v : Nat) : (enc14Bytes v).length = 2 := rfl

@[simp] theorem enc14Bytes_sevenBit (v : Nat) : allSevenBit (enc14Bytes v) = true := by
  simp [allSevenBit, enc14Bytes, septetByte_toNat]; omega

@[simp] theorem encColor24_length (c : Color) : (encColor24 c).length = 6 := rfl

@[simp] theorem encColor24_sevenBit (c : Color) : allSevenBit (encColor24 c) = true := by
  simp [encColor24]

@[simp] theorem frameBytes_length (cmd : Byte) (seq : Septet) (payload : Bytes) :
    (frameBytes cmd seq payload).length = 10 + payload.length := by
  simp only [frameBytes, frameHeader, List.length_append, List.length_cons, List.length_nil, enc14Bytes_length]; omega

theorem payloadOk_iff (p : Bytes) : payloadOk p = true ↔ p.length ≤ lenMax ∧ ∀ b ∈ p, b.toNat ≤ 127 := by
  simp [payloadOk, allSevenBit_iff]

/-- The entry the registry gives for a byte carries that byte. -/
theorem registryAt_id {reg : List Descriptor} {id : Byte} {d : Descriptor} (h : registryAt reg id = some d) :
    d.id = id := by
  simpa using List.find?_some h

/-- `clampOff` is a number between 0 and `max(0, total - size)`. -/
theorem clampOff_bounds (off : Int) (total size : Nat) :
    0 ≤ clampOff off total size ∧ (clampOff off total size).toNat ≤ total - size := by
  unfold clampOff; omega

/-- An offset that is within the bound stays. -/
theorem clampOff_of_le {off total size : Nat} (h : off ≤ total - size) :
    clampOff (off : Int) total size = off := by
  unfold clampOff; omega

end Sys2Proof
end

