-- ==== Sys2Proof/Laws/Ops.lean ====
section
/-! SUPPORT. One lemma per shared operation: what it can do, and what it leaves alone. Later proofs cite these instead
of unfolding the operation. -/

namespace Sys2Proof.Machine

/-! ## Ending an event -/

@[simp] theorem raise_eq_next (c : StatusCode) (s t : State) : raise c s = .next t ↔ t = s.emit (.status c) := by
  simp [raise, eq_comm]

@[simp] theorem raise_ne_refused (c : StatusCode) (s : State) (r : Refusal) : raise c s ≠ .refused r := by
  simp [raise]

@[simp] theorem giveResult_eq_next (v : ResultValue) (s t : State) :
    giveResult v s = .next t ↔ t = s.emit (.result v) := by
  simp [giveResult, eq_comm]

@[simp] theorem giveResult_ne_refused (v : ResultValue) (s : State) (r : Refusal) : giveResult v s ≠ .refused r := by
  simp [giveResult]

/-- A sequence of two steps answers a next state exactly where both do. -/
theorem andThen_eq_next (r : Res) (f : State → Res) (t : State) :
    andThen r f = .next t ↔ ∃ s, r = .next s ∧ f s = .next t := by
  cases r <;> simp [andThen]

@[simp] theorem andThen_next (s : State) (f : State → Res) : andThen (.next s) f = f s := rfl

@[simp] theorem andThen_refused (e : Refusal) (f : State → Res) : andThen (.refused e) f = .refused e := rfl

/-- A sequence of two steps is refused exactly where one of them is. -/
theorem andThen_eq_refused (r : Res) (f : State → Res) (e : Refusal) :
    andThen r f = .refused e ↔ r = .refused e ∨ ∃ s, r = .next s ∧ f s = .refused e := by
  cases r <;> simp [andThen]

/-! ## SEND and EMITALL -/

@[simp] theorem send_conn (c : Byte) (p : Bytes) (s : State) : (send c p s).conn = s.conn := rfl
@[simp] theorem send_retryArmed (c : Byte) (p : Bytes) (s : State) : (send c p s).retryArmed = s.retryArmed := rfl
@[simp] theorem send_txSeq (c : Byte) (p : Bytes) (s : State) : (send c p s).txSeq = s.txSeq + 1 := rfl
@[simp] theorem send_grid (c : Byte) (p : Bytes) (s : State) : (send c p s).grid = s.grid := rfl
@[simp] theorem send_win (c : Byte) (p : Bytes) (s : State) : (send c p s).win = s.win := rfl
@[simp] theorem send_slots (c : Byte) (p : Bytes) (s : State) : (send c p s).slots = s.slots := rfl
@[simp] theorem send_lastFlush (c : Byte) (p : Bytes) (s : State) : (send c p s).lastFlush = s.lastFlush := rfl
@[simp] theorem send_subs (c : Byte) (p : Bytes) (s : State) : (send c p s).subs = s.subs := rfl
@[simp] theorem send_cfg (c : Byte) (p : Bytes) (s : State) : (send c p s).cfg = s.cfg := rfl
@[simp] theorem send_port (c : Byte) (p : Bytes) (s : State) : (send c p s).port = s.port := rfl
@[simp] theorem send_out (c : Byte) (p : Bytes) (s : State) :
    (send c p s).out = s.out ++ [.tx (frameBytes c s.txSeq p)] := rfl
@[simp] theorem send_draws (c : Byte) (p : Bytes) (s : State) : (send c p s).draws = s.draws := rfl

/-- Sending one frame for each of a list of slots: the counter advances by their number, the frames are appended. -/
theorem foldl_send (l : List Slot) (s : State) :
    l.foldl (fun acc x => send x.cmd x.payload acc) s
      = { s with txSeq := s.txSeq + BitVec.ofNat 7 l.length, out := s.out ++ framesFrom s.txSeq l } := by
  induction l generalizing s with
  | nil => simp [framesFrom]
  | cons x rest ih =>
    rw [List.foldl_cons, ih]
    simp only [send_txSeq, send_out, framesFrom, List.length_cons, List.append_assoc, List.singleton_append]
    have hseq : s.txSeq + 1 + BitVec.ofNat 7 rest.length = s.txSeq + BitVec.ofNat 7 (rest.length + 1) := by
      rw [Nat.add_comm rest.length 1, BitVec.ofNat_add]; ac_rfl
    rw [hseq]; rfl

@[simp] theorem insertByPrio_length (x : Slot) (l : List Slot) : (insertByPrio x l).length = l.length + 1 := by
  induction l with
  | nil => rfl
  | cons y rest ih => unfold insertByPrio; split <;> simp [ih]

@[simp] theorem emitOrder_length (l : List Slot) : (emitOrder l).length = l.length := by
  induction l with
  | nil => rfl
  | cons x rest ih => simp [emitOrder, ih]

/-- EMITALL: the table is empty, one frame per slot has gone out in emission order, nothing else has changed. -/
theorem emitAll_eq (s : State) :
    emitAll s
      = { s with
          slots := []
          txSeq := s.txSeq + BitVec.ofNat 7 s.slots.length
          out := s.out ++ framesFrom s.txSeq (emitOrder s.slots) } := by
  simp only [emitAll, foldl_send, emitOrder_length, State.putSlots]

/-! ## QUEUE and QUEUEGRID -/

/-- QUEUE, when it answers: the payload was too long and only a report is left, or the slot is in the table, with a
report if the tier was clamped. -/
theorem queueSlot_eq_next {cmd : Byte} {key : Word14} {payload : Bytes} {prio : Byte} {s t : State}
    (h : queueSlot cmd key payload prio s = .next t) :
    allSevenBit payload = true ∧
    ((lenMax < payload.length ∧ t = s.emit (.status .oversize))
      ∨ (payload.length ≤ lenMax ∧ ∃ l,
          upsertSlot s.cfg.nSlots ⟨cmd, key, payload, min prio.toNat (s.cfg.nPrio - 1)⟩ s.slots = some l
          ∧ t = if s.cfg.nPrio - 1 < prio.toNat then (s.putSlots l).emit (.status .rangeClamped)
                else s.putSlots l)) := by
  unfold queueSlot at h
  split at h
  · cases h
  · rename_i h7
    refine ⟨by simpa using h7, ?_⟩
    split at h
    · rename_i hlen; exact .inl ⟨hlen, by simpa using h⟩
    · rename_i hlen
      refine .inr ⟨Nat.le_of_not_lt hlen, ?_⟩
      split at h
      · cases h
      · rename_i l hl
        refine ⟨l, hl, ?_⟩
        split at h <;> (cases h; simp_all)

/-- QUEUE is refused only for a payload byte of 0x80 or more, or for want of a slot. -/
theorem queueSlot_eq_refused {cmd : Byte} {key : Word14} {payload : Bytes} {prio : Byte} {s : State} {r : Refusal}
    (h : queueSlot cmd key payload prio s = .refused r) :
    (r = .payloadNotSevenBit ∧ allSevenBit payload = false)
      ∨ (r = .coalescerFull
          ∧ upsertSlot s.cfg.nSlots ⟨cmd, key, payload, min prio.toNat (s.cfg.nPrio - 1)⟩ s.slots = none) := by
  unfold queueSlot at h
  split at h
  · rename_i h7; left; cases h; exact ⟨rfl, by simpa using h7⟩
  · split at h
    · simp at h
    · split at h
      · rename_i hl; right; cases h; exact ⟨rfl, hl⟩
      · split at h <;> cases h

/-- An upsert finds no place exactly where the address is not pending and the table is full. -/
theorem upsertSlot_eq_none (n : Nat) (x : Slot) (l : List Slot) :
    upsertSlot n x l = none ↔ (∀ y ∈ l, ¬ (y.cmd = x.cmd ∧ y.key = x.key)) ∧ n ≤ l.length := by
  unfold upsertSlot
  by_cases hex : l.any (fun y => y.sameKey x) = true
  · rw [if_pos hex]
    simp only [List.any_eq_true, Slot.sameKey, Bool.and_eq_true, beq_iff_eq] at hex
    obtain ⟨y, hy, hk⟩ := hex
    simp only [reduceCtorEq, false_iff]
    intro hc; exact hc.1 y hy hk
  · rw [if_neg hex]
    simp only [List.any_eq_true, Slot.sameKey, Bool.and_eq_true, beq_iff_eq, not_exists, not_and] at hex
    by_cases hn : n ≤ l.length
    · simp [hn]; exact hex
    · simp [hn]

@[simp] theorem renderGrid_length (s : State) : (renderGrid s).length = 192 := by
  simp [renderGrid, List.length_flatMap]

@[simp] theorem renderGrid_sevenBit (s : State) : allSevenBit (renderGrid s) = true := by
  rw [allSevenBit_iff]
  intro b hb
  simp only [renderGrid, List.mem_flatMap] at hb
  obtain ⟨i, -, hb⟩ := hb
  exact (allSevenBit_iff _).1 (encColor24_sevenBit _) b hb

/-- QUEUEGRID, when it answers: the whole rendered grid is pending, with a report if its tier was clamped. -/
theorem queueGrid_eq_next {s t : State} (h : queueGrid s = .next t) :
    ∃ l, upsertSlot s.cfg.nSlots (gridSlot s) s.slots = some l
      ∧ t = if s.cfg.nPrio - 1 < s.cfg.prioGrid.toNat then (s.putSlots l).emit (.status .rangeClamped)
            else s.putSlots l := by
  obtain ⟨-, ⟨hlen, -⟩ | ⟨-, h⟩⟩ := queueSlot_eq_next h
  · simp [lenMax] at hlen
  · exact h

/-- QUEUEGRID is refused only for want of a slot. -/
theorem queueGrid_eq_refused {s : State} {r : Refusal} (h : queueGrid s = .refused r) :
    r = .coalescerFull ∧ upsertSlot s.cfg.nSlots (gridSlot s) s.slots = none := by
  obtain ⟨-, h7⟩ | h := queueSlot_eq_refused h
  · simp at h7
  · exact h

/-- QUEUEGRID answers wherever there is room for the grid frame. -/
theorem queueGrid_completes {s : State} (h : s.roomForGrid) : ∃ t, queueGrid s = .next t := by
  match hq : queueGrid s with
  | .next t => exact ⟨t, rfl⟩
  | .fault e => cases e
  | .refused r =>
    obtain ⟨-, hn⟩ := queueGrid_eq_refused hq
    rw [upsertSlot_eq_none] at hn
    rcases h with ⟨x, hx, hk⟩ | hlt
    · exact absurd hk (hn.1 x hx)
    · exact absurd hlt (by omega)

/-- QUEUEGRID answers nowhere else. -/
theorem queueGrid_refuses {s : State} (h : ¬ s.roomForGrid) : queueGrid s = .refused .coalescerFull := by
  match hq : queueGrid s with
  | .refused r => obtain ⟨rfl, -⟩ := queueGrid_eq_refused hq; rfl
  | .fault e => cases e
  | .next t =>
    obtain ⟨l, hl, -⟩ := queueGrid_eq_next hq
    have hn : upsertSlot s.cfg.nSlots (gridSlot s) s.slots = none :=
      (upsertSlot_eq_none _ _ _).2 ⟨fun y hy hk => h (.inl ⟨y, hy, hk⟩), Nat.le_of_not_lt (fun hlt => h (.inr hlt))⟩
    rw [hn] at hl; cases hl

/-- What QUEUEGRID leaves alone, and that it only ever reports. -/
theorem queueGrid_frame {s t : State} (h : queueGrid s = .next t) :
    t.conn = s.conn ∧ t.retryArmed = s.retryArmed ∧ t.txSeq = s.txSeq ∧ t.grid = s.grid ∧ t.win = s.win
      ∧ t.lastFlush = s.lastFlush ∧ t.subs = s.subs ∧ t.cfg = s.cfg ∧ t.port = s.port ∧ t.draws = s.draws
      ∧ (t.out = s.out ∨ t.out = s.out ++ [.status .rangeClamped]) := by
  obtain ⟨l, -, rfl⟩ := queueGrid_eq_next h
  split <;> simp

/-! ## RELOAD -/

/-- RELOAD of one pad: the pad's cell, the trace and the count of draws may change, nothing else. -/
theorem reloadPad_frame (s : State) (p : Nat) :
    (reloadPad s p).conn = s.conn ∧ (reloadPad s p).retryArmed = s.retryArmed ∧ (reloadPad s p).txSeq = s.txSeq
      ∧ (reloadPad s p).win = s.win ∧ (reloadPad s p).slots = s.slots ∧ (reloadPad s p).lastFlush = s.lastFlush
      ∧ (reloadPad s p).subs = s.subs ∧ (reloadPad s p).cfg = s.cfg ∧ (reloadPad s p).port = s.port := by
  unfold reloadPad; split <;> simp

/-- RELOAD: the grid, the trace and the count of draws may change, nothing else. -/
theorem reload_frame (s : State) :
    (reload s).conn = s.conn ∧ (reload s).retryArmed = s.retryArmed ∧ (reload s).txSeq = s.txSeq
      ∧ (reload s).win = s.win ∧ (reload s).slots = s.slots ∧ (reload s).lastFlush = s.lastFlush
      ∧ (reload s).subs = s.subs ∧ (reload s).cfg = s.cfg ∧ (reload s).port = s.port := by
  unfold reload
  induction List.range nPads generalizing s with
  | nil => simp
  | cons p rest ih =>
    obtain ⟨h1, h2, h3, h4, h5, h6, h7, h8, h9⟩ := reloadPad_frame s p
    obtain ⟨g1, g2, g3, g4, g5, g6, g7, g8, g9⟩ := ih (reloadPad s p)
    rw [List.foldl_cons]
    exact ⟨g1.trans h1, g2.trans h2, g3.trans h3, g4.trans h4, g5.trans h5, g6.trans h6, g7.trans h7, g8.trans h8,
      g9.trans h9⟩

/-! ## Subscriptions and WINCHANGE -/

/-- Giving handles back: one `UNSUBSCRIBE` an entry, and the entries are gone. -/
theorem foldl_unsubscribe (l : Subs) (s : State) :
    l.foldl unsubscribeCell s
      = { s with
          subs := l.foldl (fun m e => Subs.erase m e.1) s.subs
          out := s.out ++ l.map (fun e => .unsubscribe e.2) } := by
  induction l generalizing s with
  | nil => simp
  | cons e rest ih =>
    rw [List.foldl_cons, ih]
    simp [unsubscribeCell, State.emit, State.putSubs]

/-- The subscription table after a number of cells have entered, with the answers drawn from draw `n` on. -/
def writeAnswers (m : Subs) (n : Nat) : List CellKey → Subs
  | [] => m
  | c :: rest => writeAnswers (Subs.write m c (Config.subscribeAnswer n)) (n + 1) rest

/-- Subscribing: one `SUBSCRIBE` a cell, and one answer drawn and stored for each. -/
theorem foldl_subscribe (l : List CellKey) (s : State) :
    l.foldl subscribeCell s
      = { s with
          subs := writeAnswers s.subs s.draws l
          draws := s.draws + l.length
          out := s.out ++ l.map .subscribe } := by
  induction l generalizing s with
  | nil => simp [writeAnswers]
  | cons c rest ih =>
    rw [List.foldl_cons, ih]
    simp [subscribeCell, State.emit, State.putSubs, State.countDraw, writeAnswers, Nat.add_assoc, Nat.add_comm 1]

/-- The middle of WINCHANGE: unsubscribe what left, subscribe what entered, and nothing else. -/
theorem resubscribe_eq (s : State) :
    resubscribe s
      = { s with
          subs := writeAnswers ((leftCells s.win s.subs).foldl (fun m e => Subs.erase m e.1) s.subs) s.draws
            (enteredCells s.win s.subs)
          draws := s.draws + (enteredCells s.win s.subs).length
          out := s.out ++ (leftCells s.win s.subs).map (fun e => .unsubscribe e.2)
            ++ (enteredCells s.win s.subs).map .subscribe } := by
  rw [resubscribe, foldl_unsubscribe, foldl_subscribe]

/-- The state WINCHANGE hands to the reload, for a record that differs. -/
def windowMoved (w : RingWindow) (s : State) : State := resubscribe ((s.putWin w).emit (.windowChanged w))

/-- WINCHANGE, when it answers: nothing has happened, or the window is written, the subscriptions follow it, the grid
is reloaded and queued. -/
theorem winChange_eq_next {w : RingWindow} {s t : State} (h : winChange w s = .next t) :
    (w = s.win ∧ t = s) ∨ (w ≠ s.win ∧ queueGrid (reload (windowMoved w s)) = .next t) := by
  unfold winChange at h
  split at h
  · rename_i hw; cases h; exact .inl ⟨hw, rfl⟩
  · rename_i hw; exact .inr ⟨hw, h⟩

/-- The state before the reload: window, table, trace and count of draws have changed, nothing else. -/
theorem windowMoved_frame (w : RingWindow) (s : State) :
    (windowMoved w s).conn = s.conn ∧ (windowMoved w s).retryArmed = s.retryArmed
      ∧ (windowMoved w s).txSeq = s.txSeq ∧ (windowMoved w s).grid = s.grid ∧ (windowMoved w s).win = w
      ∧ (windowMoved w s).slots = s.slots ∧ (windowMoved w s).lastFlush = s.lastFlush
      ∧ (windowMoved w s).cfg = s.cfg ∧ (windowMoved w s).port = s.port := by
  simp [windowMoved, resubscribe_eq]

/-- What WINCHANGE leaves alone, and the window it leaves. -/
theorem winChange_frame {w : RingWindow} {s t : State} (h : winChange w s = .next t) :
    t.win = w ∧ t.conn = s.conn ∧ t.retryArmed = s.retryArmed ∧ t.txSeq = s.txSeq ∧ t.lastFlush = s.lastFlush
      ∧ t.cfg = s.cfg ∧ t.port = s.port := by
  obtain ⟨rfl, rfl⟩ | ⟨-, hq⟩ := winChange_eq_next h
  · simp
  · obtain ⟨h1, h2, h3, -, h5, h6, -, h8, h9, -⟩ := queueGrid_frame hq
    obtain ⟨g1, g2, g3, g4, -, g6, -, g8, g9⟩ := reload_frame (windowMoved w s)
    obtain ⟨k1, k2, k3, -, k5, -, k7, k8, k9⟩ := windowMoved_frame w s
    exact ⟨h5.trans (g4.trans k5), h1.trans (g1.trans k1), h2.trans (g2.trans k2), h3.trans (g3.trans k3),
      h6.trans (g6.trans k7), h8.trans (g8.trans k8), h9.trans (g9.trans k9)⟩

/-- WINCHANGE is refused only where the record differs and the grid frame finds no slot. -/
theorem winChange_eq_refused {w : RingWindow} {s : State} {r : Refusal} (h : winChange w s = .refused r) :
    w ≠ s.win ∧ r = .coalescerFull ∧ ¬ s.roomForGrid := by
  unfold winChange at h
  split at h
  · cases h
  · rename_i hw
    have hq : queueGrid (reload (windowMoved w s)) = .refused r := h
    obtain ⟨hr, hn⟩ := queueGrid_eq_refused hq
    refine ⟨hw, hr, ?_⟩
    rw [upsertSlot_eq_none] at hn
    obtain ⟨-, -, -, -, g5, -, -, g8, -⟩ := reload_frame (windowMoved w s)
    obtain ⟨-, -, -, -, -, k6, -, k8, -⟩ := windowMoved_frame w s
    simp only [gridSlot, g5, g8, k6, k8] at hn
    rintro (⟨x, hx, hk⟩ | hlt)
    · exact hn.1 x hx hk
    · omega

/-- WINCHANGE answers wherever there is room for the grid frame, and leaves the window it was given. -/
theorem winChange_completes (w : RingWindow) {s : State} (h : s.roomForGrid) :
    ∃ t, winChange w s = .next t ∧ t.win = w := by
  match hc : winChange w s with
  | .next t => exact ⟨t, rfl, (winChange_frame hc).1⟩
  | .fault e => cases e
  | .refused r => exact absurd h (winChange_eq_refused hc).2.2

/-- WINCHANGE answers a record that differs nowhere else. -/
theorem winChange_refuses {w : RingWindow} {s : State} (h : ¬ s.roomForGrid) (hw : w ≠ s.win) :
    winChange w s = .refused .coalescerFull := by
  have hr : ¬ (reload (windowMoved w s)).roomForGrid := by
    obtain ⟨-, -, -, -, g5, -, -, g8, -⟩ := reload_frame (windowMoved w s)
    obtain ⟨-, -, -, -, -, k6, -, k8, -⟩ := windowMoved_frame w s
    simpa only [State.roomForGrid, State.roomFor, g5, g8, k6, k8] using h
  exact (if_neg hw).trans (queueGrid_refuses hr)

/-! ## The link -/

/-- The state ENTERCONNECTED hands to QUEUEGRID: connected, timer cancelled, the reply sent if asked for, the dump
announced. -/
def dumpStart (reply : Bool) (s : State) : State :=
  { s with
    conn := .connected
    retryArmed := false
    txSeq := if reply then s.txSeq + 1 else s.txSeq
    out := s.out ++ (if reply then [.tx (frameBytes s.cfg.cmdHandshakeReply s.txSeq s.cfg.hsReplyPayload)] else [])
      ++ [.dumpReq] }

/-- ENTERCONNECTED: QUEUEGRID from there, then EMITALL. -/
theorem enterConnected_eq (reply : Bool) (s : State) :
    enterConnected reply s = andThen (queueGrid (dumpStart reply s)) (fun s3 => .next (emitAll s3)) := by
  cases reply <;> simp [enterConnected, dumpStart, send, State.putConn, State.putRetryArmed, State.emit, State.nextSeq]

/-- ENTERCONNECTED, when it answers. -/
theorem enterConnected_eq_next {reply : Bool} {s t : State} (h : enterConnected reply s = .next t) :
    ∃ s3, queueGrid (dumpStart reply s) = .next s3 ∧ t = emitAll s3 := by
  rw [enterConnected_eq, andThen_eq_next] at h
  obtain ⟨s3, hq, ht⟩ := h
  exact ⟨s3, hq, by cases ht; rfl⟩

/-- ENTERCONNECTED is refused where there is no room for the grid frame (43_handshake R152, corner case). -/
theorem enterConnected_refuses {reply : Bool} {s : State} (h : ¬ s.roomForGrid) :
    enterConnected reply s = .refused .coalescerFull := by
  rw [enterConnected_eq, queueGrid_refuses (s := dumpStart reply s) h]; rfl

/-- What ENTERCONNECTED leaves alone, and what it leaves. -/
theorem enterConnected_frame {reply : Bool} {s t : State} (h : enterConnected reply s = .next t) :
    t.conn = .connected ∧ t.retryArmed = false ∧ t.slots = [] ∧ t.grid = s.grid ∧ t.win = s.win
      ∧ t.lastFlush = s.lastFlush ∧ t.subs = s.subs ∧ t.cfg = s.cfg ∧ t.port = s.port ∧ t.draws = s.draws := by
  obtain ⟨s3, hq, rfl⟩ := enterConnected_eq_next h
  obtain ⟨h1, h2, -, h4, h5, h6, h7, h8, h9, h10, -⟩ := queueGrid_frame hq
  rw [emitAll_eq]
  exact ⟨h1, h2, rfl, h4, h5, h6, h7, h8, h9, h10⟩

/-- The router, when it answers: a drop with its report, or the link acted and the frame is dispatched. -/
theorem route_eq_next {f : Frame} {s t : State} (h : route f s = .next t) :
    (shapeMismatch (registryAt s.cfg.registry f.command) f.payloadLength = true
        ∧ t = s.emit (.status .payloadShapeError))
      ∨ (s.cfg.dirCheck = true ∧ wrongWay (registryAt s.cfg.registry f.command) = true
        ∧ t = s.emit (.status .wrongDirection))
      ∨ (∃ s1, connectOn f s = .next s1 ∧ t = s1.emit
          (.dispatch f.command f.sequence f.payload (registryAt s.cfg.registry f.command))) := by
  unfold route at h
  simp only at h
  split at h
  · rename_i hs; left; exact ⟨hs, by simpa using h⟩
  · split at h
    · rename_i hd; right; left
      simp only [Bool.and_eq_true] at hd
      exact ⟨hd.1, hd.2, by simpa using h⟩
    · right; right
      rw [andThen_eq_next] at h
      obtain ⟨s1, hs1, ht⟩ := h
      exact ⟨s1, hs1, by cases ht; rfl⟩

/-- The connection step, when it answers: a connected link does nothing, an unconnected one connects. -/
theorem connectOn_eq_next {f : Frame} {s t : State} (h : connectOn f s = .next t) :
    (s.conn = .connected ∧ t = s)
      ∨ (s.conn ≠ .connected ∧ enterConnected (f.command == cmdHandshakeByte) s = .next t) := by
  unfold connectOn at h
  split at h
  · rename_i hc; cases h; exact .inl ⟨hc, rfl⟩
  · rename_i hc; exact .inr ⟨hc, h⟩

/-- A received buffer, when it answers: a frame error is reported and dropped, or the frame went to the router. -/
theorem receive_eq_next {buf : Bytes} {s t : State} (h : receive buf s = .next t) :
    (∃ e, fdec buf = .error e ∧ t = s.emit (.status e.status)) ∨ (∃ f, fdec buf = .frame f ∧ route f s = .next t) := by
  unfold receive at h
  split at h
  · cases h
  · rename_i e he; exact .inl ⟨e, he, by simpa using h⟩
  · rename_i f hf; exact .inr ⟨f, hf, h⟩

/-- What receiving leaves alone, whatever it does. -/
theorem receive_frame {buf : Bytes} {s t : State} (h : receive buf s = .next t) :
    t.grid = s.grid ∧ t.win = s.win ∧ t.lastFlush = s.lastFlush ∧ t.subs = s.subs ∧ t.cfg = s.cfg ∧ t.port = s.port
      ∧ t.draws = s.draws ∧ (t.conn = s.conn ∨ t.conn = .connected)
      ∧ (t.slots = s.slots ∨ t.slots = []) := by
  obtain ⟨e, -, rfl⟩ | ⟨f, -, hr⟩ := receive_eq_next h
  · simp
  · obtain ⟨-, rfl⟩ | ⟨-, -, rfl⟩ | ⟨s1, hc, rfl⟩ := route_eq_next hr
    · simp
    · simp
    · obtain ⟨-, rfl⟩ | ⟨-, he⟩ := connectOn_eq_next hc
      · simp
      · obtain ⟨h1, -, h3, h4, h5, h6, h7, h8, h9, h10⟩ := enterConnected_frame he
        simp [h1, h3, h4, h5, h6, h7, h8, h9, h10]

end Sys2Proof.Machine
end

