-- ==== Sys2Proof/Laws/PerInstr.lean ====
section
/-! SUPPORT. A statement about every instruction as syntax, proved constructor by constructor: what `encode` presents
carries the number its row of spec/opcode_table.json has in the column `match`. -/

namespace Sys2Proof.Laws

/-- The byte of a presented item that the opcode table numbers: the opcode of an event record, the command byte (offset 4)
of a frame. -/
def tableByte : PortItem → Byte
  | .event r => r.op
  | .frame buf => byteAt buf 4

/-- The column `match` of spec/opcode_table.json, whose numbers for the wire commands are those of the canonical table
`R0`: under another configuration a wire command has the byte the configuration gives it (30_encoding R104). -/
def tableMatch (c : Config) : Instr → Byte
  | .enc14 _ => 0x01
  | .dec14 _ _ => 0x02
  | .enccolor24 _ _ _ => 0x03
  | .encascii _ _ => 0x04
  | .fenc _ _ _ => 0x10
  | .fdec _ => 0x11
  | .lookup _ => 0x18
  | .rxframe _ => 0x20
  | .tickretry => 0x21
  | .teardown => 0x22
  | .linkinit => 0x23
  | .queue _ _ _ _ => 0x30
  | .flush _ => 0x31
  | .forceflush => 0x32
  | .navleft => 0x40
  | .navright => 0x41
  | .navup => 0x42
  | .navdown => 0x43
  | .follow _ _ => 0x44
  | .toabs _ _ => 0x45
  | .toring _ _ => 0x46
  | .settotals _ _ => 0x47
  | .setoverview _ => 0x48
  | .cellupdate _ _ _ _ _ _ => 0x50
  | .render => 0x51
  | .blend _ _ _ _ => 0x52
  | .cmdHandshake _ _ => 0x60
  | .cmdHandshakeReply _ _ => c.cmdHandshakeReply
  | .cmdDisconnect _ _ => c.cmdDisconnect
  | .cmdGrid _ _ => c.cmdGrid
  | .cmdVolume _ _ => c.cmdVolume

/-- What is presented for an instruction, under any configuration, carries its row's number. -/
def RowByte.Statement (i : Instr) : Prop := ∀ c : Config, tableByte (encode c i) = tableMatch c i

theorem RowByte.enc14 : ∀ a, RowByte.Statement (.enc14 a) := fun _ _ => rfl
theorem RowByte.dec14 : ∀ a b, RowByte.Statement (.dec14 a b) := fun _ _ _ => rfl
theorem RowByte.enccolor24 : ∀ a b c, RowByte.Statement (.enccolor24 a b c) := fun _ _ _ _ => rfl
theorem RowByte.encascii : ∀ a b, RowByte.Statement (.encascii a b) := fun _ _ _ => rfl
theorem RowByte.fenc : ∀ a b c, RowByte.Statement (.fenc a b c) := fun _ _ _ _ => rfl
theorem RowByte.fdec : ∀ a, RowByte.Statement (.fdec a) := fun _ _ => rfl
theorem RowByte.lookup : ∀ a, RowByte.Statement (.lookup a) := fun _ _ => rfl
theorem RowByte.rxframe : ∀ a, RowByte.Statement (.rxframe a) := fun _ _ => rfl
theorem RowByte.tickretry : RowByte.Statement (.tickretry) := fun _ => rfl
theorem RowByte.teardown : RowByte.Statement (.teardown) := fun _ => rfl
theorem RowByte.linkinit : RowByte.Statement (.linkinit) := fun _ => rfl
theorem RowByte.queue : ∀ a b c d, RowByte.Statement (.queue a b c d) := fun _ _ _ _ _ => rfl
theorem RowByte.flush : ∀ a, RowByte.Statement (.flush a) := fun _ _ => rfl
theorem RowByte.forceflush : RowByte.Statement (.forceflush) := fun _ => rfl
theorem RowByte.navleft : RowByte.Statement (.navleft) := fun _ => rfl
theorem RowByte.navright : RowByte.Statement (.navright) := fun _ => rfl
theorem RowByte.navup : RowByte.Statement (.navup) := fun _ => rfl
theorem RowByte.navdown : RowByte.Statement (.navdown) := fun _ => rfl
theorem RowByte.follow : ∀ a b, RowByte.Statement (.follow a b) := fun _ _ _ => rfl
theorem RowByte.toabs : ∀ a b, RowByte.Statement (.toabs a b) := fun _ _ _ => rfl
theorem RowByte.toring : ∀ a b, RowByte.Statement (.toring a b) := fun _ _ _ => rfl
theorem RowByte.settotals : ∀ a b, RowByte.Statement (.settotals a b) := fun _ _ _ => rfl
theorem RowByte.setoverview : ∀ a, RowByte.Statement (.setoverview a) := fun _ _ => rfl
theorem RowByte.cellupdate : ∀ a b c d e f, RowByte.Statement (.cellupdate a b c d e f) := fun _ _ _ _ _ _ _ => rfl
theorem RowByte.render : RowByte.Statement (.render) := fun _ => rfl
theorem RowByte.blend : ∀ a b c d, RowByte.Statement (.blend a b c d) := fun _ _ _ _ _ => rfl
theorem RowByte.cmdHandshake : ∀ a b, RowByte.Statement (.cmdHandshake a b) := fun _ _ _ => rfl
theorem RowByte.cmdHandshakeReply : ∀ a b, RowByte.Statement (.cmdHandshakeReply a b) := fun _ _ _ => rfl
theorem RowByte.cmdDisconnect : ∀ a b, RowByte.Statement (.cmdDisconnect a b) := fun _ _ _ => rfl
theorem RowByte.cmdGrid : ∀ a b, RowByte.Statement (.cmdGrid a b) := fun _ _ _ => rfl
theorem RowByte.cmdVolume : ∀ a b, RowByte.Statement (.cmdVolume a b) := fun _ _ _ => rfl

end Sys2Proof.Laws
end

