-- ==== Sys2Proof/Laws/Subs.lean ====
section
/-! SUPPORT. The subscription table: every operation keeps the canonical form, the reset table has it, and a read after
a write gives the value written and leaves every other cell alone. The visible set as a list is the visible set. -/

namespace Sys2Proof

/-- Two cells of the same rank are the same cell. -/
theorem CellKey.rank_inj {a b : CellKey} (h : a.rank = b.rank) : a = b := by
  obtain ⟨ta, sa⟩ := a
  obtain ⟨tb, sb⟩ := b
  simp only [CellKey.rank] at h
  have h1 : sa = sb := BitVec.eq_of_toNat_eq (by omega)
  have h2 : ta = tb := BitVec.eq_of_toNat_eq (by omega)
  rw [h1, h2]

end Sys2Proof

namespace Sys2Proof.Machine

theorem Subs.wf_nil : Subs.wf [] := List.Pairwise.nil

theorem reset_subs_wf (c : Config) : Subs.wf (State.resetWith c).subs := Subs.wf_nil

/-! ## Which cells a table holds -/

theorem Subs.mem_dom_write (m : Subs) (c : CellKey) (h : Handle) (c' : CellKey) :
    c' ∈ Subs.dom (Subs.write m c h) ↔ c' = c ∨ c' ∈ Subs.dom m := by
  induction m with
  | nil => simp [Subs.write, Subs.dom]
  | cons e rest ih =>
    simp only [Subs.dom] at ih
    unfold Subs.write
    split
    · simp only [Subs.dom, List.map_cons, List.mem_cons, ih]; tauto
    · split
      · rename_i _ he; simp [Subs.dom, he]
      · simp [Subs.dom]

theorem Subs.mem_dom_erase (m : Subs) (c c' : CellKey) :
    c' ∈ Subs.dom (Subs.erase m c) ↔ c' ∈ Subs.dom m ∧ c' ≠ c := by
  simp only [Subs.dom, Subs.erase, List.mem_map, List.mem_filter, bne_iff_ne, ne_eq]
  constructor
  · rintro ⟨e, ⟨he, hne⟩, rfl⟩; exact ⟨⟨e, he, rfl⟩, hne⟩
  · rintro ⟨⟨e, he, rfl⟩, hne⟩; exact ⟨e, ⟨he, hne⟩, rfl⟩

/-! ## The canonical form is kept -/

theorem Subs.wf_erase {m : Subs} (c : CellKey) (hm : Subs.wf m) : Subs.wf (Subs.erase m c) := hm.filter _

theorem Subs.wf_write {m : Subs} (c : CellKey) (h : Handle) (hm : Subs.wf m) : Subs.wf (Subs.write m c h) := by
  induction m with
  | nil => simp [Subs.write]
  | cons e rest ih =>
    obtain ⟨he, hrest⟩ := List.pairwise_cons.1 hm
    unfold Subs.write
    split
    · rename_i hlt
      refine List.pairwise_cons.2 ⟨fun x hx => ?_, ih hrest⟩
      have hx' : x.1 ∈ Subs.dom (Subs.write rest c h) := List.mem_map_of_mem hx
      rcases (Subs.mem_dom_write rest c h x.1).1 hx' with hc | hmem
      · rw [hc]; exact hlt
      · obtain ⟨y, hy, hyx⟩ := List.mem_map.1 hmem
        rw [← hyx]; exact he y hy
    · split
      · rename_i _ heq
        exact List.pairwise_cons.2 ⟨fun x hx => heq ▸ he x hx, hrest⟩
      · rename_i hge hne
        have hlt : c.rank < e.1.rank := by
          rcases Nat.lt_or_eq_of_le (Nat.le_of_not_lt hge) with hl | heq
          · exact hl
          · exact absurd (CellKey.rank_inj heq).symm hne
        refine List.pairwise_cons.2 ⟨fun x hx => ?_, hm⟩
        rcases List.mem_cons.1 hx with rfl | hx
        · exact hlt
        · exact hlt.trans (he x hx)

/-- Clearing any list of entries keeps the canonical form. -/
theorem Subs.wf_eraseAll (l : Subs) {m : Subs} (hm : Subs.wf m) :
    Subs.wf (l.foldl (fun m e => Subs.erase m e.1) m) := by
  induction l generalizing m with
  | nil => exact hm
  | cons e rest ih => exact ih (Subs.wf_erase e.1 hm)

/-- Storing any number of drawn handles keeps the canonical form. -/
theorem wf_writeAnswers (l : List CellKey) {m : Subs} (n : Nat) (hm : Subs.wf m) : Subs.wf (writeAnswers m n l) := by
  induction l generalizing m n with
  | nil => exact hm
  | cons c rest ih => exact ih (n + 1) (Subs.wf_write c _ hm)

/-! ## Reads after writes -/

theorem Subs.read_isSome (m : Subs) (c : CellKey) : (Subs.read m c).isSome = true ↔ c ∈ Subs.dom m := by
  simp [Subs.read, Subs.dom, List.find?_isSome]

theorem Subs.read_write_same (m : Subs) (c : CellKey) (h : Handle) (hm : Subs.wf m) :
    Subs.read (Subs.write m c h) c = some h := by
  induction m with
  | nil => simp [Subs.write, Subs.read]
  | cons e rest ih =>
    obtain ⟨-, hrest⟩ := List.pairwise_cons.1 hm
    unfold Subs.write
    split
    · rename_i hlt
      have hne : e.1 ≠ c := fun hc => by rw [hc] at hlt; exact lt_irrefl _ hlt
      have := ih hrest
      simp only [Subs.read, List.find?_cons] at this ⊢
      rw [beq_false_of_ne hne]; exact this
    · split <;> simp [Subs.read]

theorem Subs.read_write_other (m : Subs) (c c' : CellKey) (h : Handle) (hne : c' ≠ c) :
    Subs.read (Subs.write m c h) c' = Subs.read m c' := by
  induction m with
  | nil => simp [Subs.write, Subs.read, hne.symm]
  | cons e rest ih =>
    unfold Subs.write
    split
    · simp only [Subs.read, List.find?_cons] at ih ⊢
      split
      · rfl
      · exact ih
    · split
      · rename_i _ he; simp [Subs.read, he, hne.symm]
      · simp [Subs.read, hne.symm]

theorem Subs.read_erase_same (m : Subs) (c : CellKey) : Subs.read (Subs.erase m c) c = none := by
  have := Subs.read_isSome (Subs.erase m c) c
  rw [Subs.mem_dom_erase] at this
  cases hr : Subs.read (Subs.erase m c) c with
  | none => rfl
  | some _ => simp [hr] at this

theorem Subs.read_erase_other (m : Subs) (c c' : CellKey) (hne : c' ≠ c) :
    Subs.read (Subs.erase m c) c' = Subs.read m c' := by
  induction m with
  | nil => rfl
  | cons e rest ih =>
    simp only [Subs.read, Subs.erase, List.find?_cons, List.filter_cons] at ih ⊢
    by_cases he : e.1 = c
    · have hb : (c == c') = false := beq_false_of_ne hne.symm
      rw [he, hb]; simpa using ih
    · simp only [bne_iff_ne, ne_eq, he, not_false_eq_true, if_true, List.find?_cons]
      split
      · rfl
      · exact ih

/-! ## The visible set -/

/-- The coordinates of one axis of the visible set. -/
theorem mem_visibleSpan (off size total x : Nat) :
    x ∈ visibleSpan off size total ↔ off ≤ x ∧ x < off + size ∧ x < total := by
  simp only [visibleSpan, List.mem_filter, List.mem_map, List.mem_range, decide_eq_true_eq]
  constructor
  · rintro ⟨⟨i, hi, rfl⟩, ht⟩; omega
  · rintro ⟨h1, h2, h3⟩; exact ⟨⟨x - off, by omega, by omega⟩, h3⟩

/-- The list of visible cells holds exactly the cells of the visible set. -/
theorem mem_visibleCells (w : RingWindow) (c : CellKey) : c ∈ visibleCells w ↔ isVisible w c = true := by
  obtain ⟨ct, cs⟩ := c
  simp only [visibleCells, List.mem_flatMap, List.mem_map, mem_visibleSpan, isVisible, showsAt, inSpan,
    Bool.and_eq_true, decide_eq_true_eq, CellKey.mk.injEq]
  constructor
  · rintro ⟨s, hs, t, ht, rfl, rfl⟩
    simp only [BitVec.toNat_ofNat]
    omega
  · rintro ⟨⟨⟨h1, h2⟩, h3⟩, h4⟩
    exact ⟨cs.toNat, by omega, ct.toNat, by omega, by simp, by simp⟩

end Sys2Proof.Machine
end

