-- ==== Sys2Proof/Tests/Slice0.lean ====
section
/-! SUPPORT. Tests of the model against spec/95_test_vectors.md (each names its vector), the decoding of every
constructor from an item written out from spec/30_encoding.md, the refusals of every well-formedness check, and a
witness for each statement that has hypotheses. -/

open Sys2Proof Sys2Proof.Machine

namespace Sys2Proof.Tests

/-! ## Helpers -/

/-- What an instruction emits from `s`, or none where it is refused. -/
def outs (i : Instr) (s : State) : Option (List Output) :=
  match exec i { s with out := [] } with
  | .next t => some t.out
  | .fault _ => none
  | .refused _ => none

/-- A projection of the state an instruction leaves, or none where it is refused. -/
def leaves {α : Type} (i : Instr) (s : State) (f : State → α) : Option α :=
  match exec i s with
  | .next t => some (f t)
  | .fault _ => none
  | .refused _ => none

theorem of_leaves {α : Type} {i : Instr} {s : State} {f : State → α} {v : α} (h : leaves i s f = some v) :
    ∃ t, exec i s = .next t ∧ f t = v := by
  unfold leaves at h
  split at h
  · rename_i t ht; exact ⟨t, ht, Option.some.inj h⟩
  · cases h
  · cases h

/-- Why an instruction is refused, or none. -/
def refuses (i : Instr) (s : State) : Option Refusal :=
  match exec i s with
  | .next _ => none
  | .fault _ => none
  | .refused r => some r

/-- Reset with a 4 by 2 grid, the configuration of the vectors V-RT. -/
def small : State := State.resetWith { Config.default with gridW := 4, gridH := 2 }

/-- `small` with the window `(a, b | c, d)` of the vectors V-RT. -/
def winAt (a b c d : Word14) : State :=
  { small with win := { small.win with trackOffset := a, sceneOffset := b, totalTracks := c, totalScenes := d } }

/-- The start of V-GS-3: one subscribed cell is enough for it. -/
def oneCell : State := (winAt 4 0 8 3).putSubs [(⟨5, 1⟩, ⟨7⟩)]

/-- Reset with a link that is up. -/
def up : State := (State.reset.putConn .connected).putRetryArmed false

/-- A slot of the vectors V-CO. -/
def slot (key : Word14) (b : Byte) (prio : Nat) : Slot := ⟨0x21, key, [b], prio⟩

/-- `oneCell` with room for one slot only, which is pending and is not the grid's. -/
def crowded : State :=
  { oneCell with cfg := { oneCell.cfg with nSlots := 1 }, slots := [slot 1 1 0] }

/-- Reset with room for two slots only, and both pending (V-CO-12). -/
def full : State := (State.resetWith { Config.default with nSlots := 2 }).putSlots [slot 1 1 0, slot 2 2 0]

/-- The good frame of V-FD: a handshake, sequence number 2, tag "PC". -/
def good : Bytes := [0xF0, 0x7F, 0x00, 0x7F, 0x60, 0x02, 0x00, 0x02, 0x50, 0x43, 0x71, 0xF7]

/-- Decoding under the canonical registry `R0`. -/
def decodeR0 (item : PortItem) : Except DecodeError Instr := decode Config.default item

/-- A registry with other bytes for the four open commands (30_encoding R104). -/
def otherBytes : Config :=
  { Config.default with cmdHandshakeReply := 0x70, cmdDisconnect := 0x71, cmdGrid := 0x72, cmdVolume := 0x73 }

/-- The unknown command of V-RG-10. -/
def unknownFrame : Bytes := [0xF0, 0x7F, 0x00, 0x7F, 0x05, 0x09, 0x00, 0x03, 0x01, 0x02, 0x03, 0x0C, 0xF7]

/-! ## Well-formedness: each check refuses an ill-formed term -/

theorem test_wf_refuses_high_bit_payload : (Instr.cmdVolume 0 [0x80]).wf = false := by decide
theorem test_wf_refuses_long_payload (seq : Septet) : (Instr.cmdHandshake seq (List.replicate 16384 0)).wf = false := by
  rw [Instr.wf, payloadOk, List.length_replicate]; rfl
theorem test_wf_accepts_a_frame : (Instr.cmdHandshakeReply 7 [0x7F]).wf = true := by decide
theorem test_wf_refuses_size : (SizeKind.fixed 16384).wf = false := by decide
theorem test_wf_refuses_geometry :
    ({ Config.default with gridW := 8, gridH := 5 }).wf = false ∧ ({ Config.default with gridW := 0 }).wf = false
      ∧ ({ Config.default with gridH := 0 }).wf = false := by decide
theorem test_wf_refuses_registry :
    ({ Config.default with registry := [⟨0x60, .bidirectional, .empty⟩, ⟨0x60, .bidirectional, .variable⟩] }).wf = false
      ∧ ({ Config.default with registry := [⟨0x60, .bidirectional, .fixed 16384⟩] }).wf = false := by decide
theorem test_wf_refuses_payloads :
    ({ Config.default with tag := [0x50] }).wf = false ∧ ({ Config.default with tag := [0x50, 0x80] }).wf = false
      ∧ ({ Config.default with hsReplyPayload := [0xFF] }).wf = false := by decide
theorem test_wf_refuses_coalescer :
    ({ Config.default with nSlots := 0 }).wf = false ∧ ({ Config.default with nPrio := 0 }).wf = false
      ∧ ({ Config.default with prioGrid := 4 }).wf = false := by decide
theorem test_distinct_refuses_coinciding_bytes :
    ({ Config.default with cmdGrid := 0x60 }).commandsDistinct = false
      ∧ ({ Config.default with cmdVolume := 0x62 }).commandsDistinct = false
      ∧ Config.default.commandsDistinct = true ∧ otherBytes.commandsDistinct = true := by decide
theorem test_wf_default : Config.default.wf = true := by decide

/-! ## Decoding: one item written out for each constructor (30_encoding R91, R80) -/

theorem test_decode_enc14 : decodeR0 (.event ⟨0x01, [.field 16 1000]⟩) = .ok (.enc14 1000) := by decide
theorem test_decode_dec14 : decodeR0 (.event ⟨0x02, [.field 7 7, .field 7 104]⟩) = .ok (.dec14 7 104) := by decide
theorem test_decode_enccolor24 :
    decodeR0 (.event ⟨0x03, [.field 8 255, .field 8 0, .field 8 128]⟩) = .ok (.enccolor24 255 0 128) := by decide
theorem test_decode_encascii :
    decodeR0 (.event ⟨0x04, [.bytes [0x48, 0x69], .field 8 8]⟩) = .ok (.encascii [0x48, 0x69] 8) := by decide
theorem test_decode_fenc :
    decodeR0 (.event ⟨0x10, [.field 8 0x60, .field 7 2, .bytes [0x50, 0x43]]⟩) = .ok (.fenc 0x60 2 [0x50, 0x43]) := by
  decide
theorem test_decode_fdec : decodeR0 (.event ⟨0x11, [.bytes good]⟩) = .ok (.fdec good) := by decide
theorem test_decode_lookup : decodeR0 (.event ⟨0x18, [.field 8 0x63]⟩) = .ok (.lookup 0x63) := by decide
theorem test_decode_rxframe : decodeR0 (.event ⟨0x20, [.bytes good]⟩) = .ok (.rxframe good) := by decide
theorem test_decode_tickretry : decodeR0 (.event ⟨0x21, []⟩) = .ok .tickretry := by decide
theorem test_decode_teardown : decodeR0 (.event ⟨0x22, []⟩) = .ok .teardown := by decide
theorem test_decode_linkinit : decodeR0 (.event ⟨0x23, []⟩) = .ok .linkinit := by decide
theorem test_decode_queue :
    decodeR0 (.event ⟨0x30, [.field 8 0x21, .field 14 2, .bytes [0x0A], .field 8 1]⟩) = .ok (.queue 0x21 2 [0x0A] 1) := by
  decide
theorem test_decode_flush : decodeR0 (.event ⟨0x31, [.time 100000]⟩) = .ok (.flush 100000) := by decide
theorem test_decode_forceflush : decodeR0 (.event ⟨0x32, []⟩) = .ok .forceflush := by decide
theorem test_decode_navleft : decodeR0 (.event ⟨0x40, []⟩) = .ok .navleft := by decide
theorem test_decode_navright : decodeR0 (.event ⟨0x41, []⟩) = .ok .navright := by decide
theorem test_decode_navup : decodeR0 (.event ⟨0x42, []⟩) = .ok .navup := by decide
theorem test_decode_navdown : decodeR0 (.event ⟨0x43, []⟩) = .ok .navdown := by decide
theorem test_decode_follow : decodeR0 (.event ⟨0x44, [.field 14 6, .field 14 1]⟩) = .ok (.follow 6 1) := by decide
theorem test_decode_toabs : decodeR0 (.event ⟨0x45, [.field 7 9, .field 7 1]⟩) = .ok (.toabs 9 1) := by decide
theorem test_decode_toring : decodeR0 (.event ⟨0x46, [.field 14 16383, .field 14 1]⟩) = .ok (.toring 16383 1) := by decide
theorem test_decode_settotals : decodeR0 (.event ⟨0x47, [.field 14 8, .field 14 3]⟩) = .ok (.settotals 8 3) := by decide
theorem test_decode_setoverview : decodeR0 (.event ⟨0x48, [.field 1 1]⟩) = .ok (.setoverview 1) := by decide
theorem test_decode_cellupdate :
    decodeR0 (.event ⟨0x50, [.field 14 5, .field 14 1, .field 8 255, .field 8 0, .field 8 128, .field 1 1]⟩)
      = .ok (.cellupdate 5 1 255 0 128 1) := by decide
theorem test_decode_render : decodeR0 (.event ⟨0x51, []⟩) = .ok .render := by decide
theorem test_decode_blend :
    decodeR0 (.event ⟨0x52, [.field 8 10, .field 8 20, .field 8 30, .field 1 1]⟩) = .ok (.blend 10 20 30 1) := by decide
theorem test_decode_cmdHandshake : decodeR0 (.frame good) = .ok (.cmdHandshake 2 [0x50, 0x43]) := by decide
theorem test_decode_cmdHandshakeReply :
    decodeR0 (.frame [0xF0, 0x7F, 0x00, 0x7F, 0x61, 0x07, 0x00, 0x00, 0x66, 0xF7]) = .ok (.cmdHandshakeReply 7 []) := by
  decide
theorem test_decode_cmdDisconnect :
    decodeR0 (.frame [0xF0, 0x7F, 0x00, 0x7F, 0x62, 0x02, 0x00, 0x00, 0x60, 0xF7]) = .ok (.cmdDisconnect 2 []) := by decide
theorem test_decode_cmdGrid :
    decodeR0 (.frame ([0xF0, 0x7F, 0x00, 0x7F, 0x63, 0x00, 0x01, 0x40] ++ List.replicate 192 0 ++ [0x63, 0xF7]))
      = .ok (.cmdGrid 0 (List.replicate 192 0)) := by decide +kernel
theorem test_decode_cmdVolume :
    decodeR0 (.frame [0xF0, 0x7F, 0x00, 0x7F, 0x21, 0x00, 0x00, 0x01, 0x1E, 0x3F, 0xF7]) = .ok (.cmdVolume 0 [0x1E]) := by
  decide

/-- A command outside the canonical table, and a buffer that is no frame, are the event RXFRAME (20_memory R58). -/
theorem test_decode_other_buffers :
    decodeR0 (.frame unknownFrame) = .ok (.rxframe unknownFrame) ∧ decodeR0 (.frame [0xF0]) = .ok (.rxframe [0xF0]) := by
  decide
/-- The command bytes are the configuration's (R104): 0x71 is its disconnect, and R0's 0x62 is none of its commands. -/
theorem test_decode_other_bytes :
    decode otherBytes (.frame [0xF0, 0x7F, 0x00, 0x7F, 0x71, 0x02, 0x00, 0x00, 0x73, 0xF7]) = .ok (.cmdDisconnect 2 [])
      ∧ encode otherBytes (.cmdDisconnect 2 [])
        = .frame [0xF0, 0x7F, 0x00, 0x7F, 0x71, 0x02, 0x00, 0x00, 0x73, 0xF7]
      ∧ decode otherBytes (.frame [0xF0, 0x7F, 0x00, 0x7F, 0x62, 0x02, 0x00, 0x00, 0x60, 0xF7])
        = .ok (.rxframe [0xF0, 0x7F, 0x00, 0x7F, 0x62, 0x02, 0x00, 0x00, 0x60, 0xF7]) := by decide
/-- An opcode outside the map, a wrong width, a value too wide and a missing operand are refused by name (R91, R100). -/
theorem test_decode_refusals :
    decodeR0 (.event ⟨0x00, []⟩) = .error (.unknownOpcode 0x00) ∧ decodeR0 (.event ⟨0x53, []⟩) = .error (.unknownOpcode 0x53)
      ∧ decodeR0 (.event ⟨0x01, [.field 14 5]⟩) = .error (.operandShape 0x01)
      ∧ decodeR0 (.event ⟨0x48, [.field 1 2]⟩) = .error (.operandShape 0x48)
      ∧ decodeR0 (.event ⟨0x44, [.field 14 1]⟩) = .error (.operandShape 0x44) := by decide
/-- The opcode table's numbers, where no other row shares them (log 11 for the one that does). -/
theorem test_table_words :
    decodeTableWord 8 0x01 = some (.enc14 0) ∧ decodeTableWord 8 0x21 = some .tickretry
      ∧ decodeTableWord 8 0x52 = some (.blend 0 0 0 0) ∧ decodeTableWord 8 0x60 = some (.cmdHandshake 0 [0, 0])
      ∧ decodeTableWord 8 0x62 = some (.cmdDisconnect 0 []) ∧ decodeTableWord 8 0x00 = none := by decide
theorem test_step_runs_the_placed_row :
    (match Sys2Proof.Machine.step (State.reset.withFetchWord 8 0x31) with
      | .next t => (t.lastFlush, t.port)
      | .fault _ => (none, [])
      | .refused _ => (none, [])) = (some 0, []) := by decide

/-! ## ValueCodec (V-VC) -/

/-- V-VC-12. -/
theorem test_enc14_max : outs (.enc14 16383) State.reset = some [.result (.pair 127 127)] := by decide
/-- V-VC-13. -/
theorem test_enc14_clamps :
    outs (.enc14 16384) State.reset = some [.status .rangeClamped, .result (.pair 127 127)] := by decide
/-- V-VC-16. -/
theorem test_dec14 : outs (.dec14 7 104) State.reset = some [.result (.value 1000)] := by decide
/-- V-VC-20. -/
theorem test_dec14_max : outs (.dec14 127 127) State.reset = some [.result (.value 16383)] := by decide
/-- V-VC-23. -/
theorem test_enccolor24 :
    outs (.enccolor24 127 128 1) State.reset = some [.result (.bytes [0x00, 0x7F, 0x01, 0x00, 0x00, 0x01])] := by decide
/-- V-VC-25. -/
theorem test_encascii_cuts :
    outs (.encascii [0x42, 0x61, 0x73, 0x73, 0x20, 0x44] 4) State.reset
      = some [.result (.bytes [0x04, 0x42, 0x61, 0x73, 0x73])] := by decide
/-- V-VC-29. -/
theorem test_encascii_masks :
    outs (.encascii [0xC3, 0xA9, 0x41] 8) State.reset = some [.result (.bytes [0x03, 0x43, 0x29, 0x41])] := by decide

/-! ## FrameCodec (V-FE, V-FD) -/

/-- V-FE-3. -/
theorem test_fenc :
    outs (.fenc 0xF0 1 [0x01]) State.reset
      = some [.result (.bytes [0xF0, 0x7F, 0x00, 0x7F, 0xF0, 0x01, 0x00, 0x01, 0x01, 0x70, 0xF7])] := by decide
/-- V-FE-2 and V-FE-12. -/
theorem test_fenc_masks_and_refuses :
    outs (.fenc 0xFF 0x7F []) State.reset
        = some [.result (.bytes [0xF0, 0x7F, 0x00, 0x7F, 0xFF, 0x7F, 0x00, 0x00, 0x00, 0xF7])]
      ∧ refuses (.fenc 0x21 0 [0x80]) State.reset = some .payloadNotSevenBit := by decide
/-- V-FD-1 and V-FD-3. -/
theorem test_fdec_frames :
    fdec good = .frame ⟨0x60, 2, 2, [0x50, 0x43], 0x71⟩
      ∧ fdec [0xF0, 0x7F, 0x00, 0x7F, 0xF0, 0x01, 0x00, 0x01, 0x01, 0x70, 0xF7] = .frame ⟨0xF0, 1, 1, [0x01], 0x70⟩ := by
  decide
/-- V-FD-4, 5, 6, 7, 8, 10, 15, 17, 18, 19. -/
theorem test_fdec_errors :
    fdec [] = .error .truncated
      ∧ fdec [0xF0, 0x7F, 0x00, 0x7F, 0x60, 0x02, 0x00, 0x02, 0x51, 0x43, 0x71, 0xF7] = .error .badChecksum
      ∧ fdec [0xF1, 0x7F, 0x00, 0x7F, 0x60, 0x02, 0x00, 0x02, 0x50, 0x43, 0x71, 0xF7] = .error .badHeader
      ∧ fdec [0xF0, 0x7F, 0x00, 0x7F, 0x60, 0x02, 0x00, 0x02, 0x50, 0x43, 0x71, 0x00] = .error .badFooter
      ∧ fdec [0xF0, 0x7F, 0x00, 0x7F, 0x60, 0x02, 0x00, 0x03, 0x50, 0x43, 0x71, 0xF7] = .error .lengthMismatch
      ∧ fdec [0xF0, 0x7F, 0x00, 0x7F, 0x60, 0x02, 0x50, 0x43, 0x71, 0xF7] = .error .lengthMismatch
      ∧ fdec [0xF1, 0x7F, 0x00, 0x7F, 0x60, 0x02, 0x00, 0x03, 0x51, 0x43, 0x71, 0x00] = .error .badHeader
      ∧ fdec (good ++ good) = .error .lengthMismatch ∧ fdec (0x00 :: good) = .error .badHeader
      ∧ fdec [0xF0, 0x7F, 0x00, 0x7F, 0x60, 0x02, 0x00, 0x02, 0xD0, 0x43, 0x71, 0xF7] = .notSevenBit := by decide

/-! ## CommandRegistry and the wire commands (V-RG) -/

/-- V-RG-2. -/
theorem test_lookup :
    outs (.lookup 0x63) State.reset = some [.result (.descriptor (some ⟨0x63, .hostToDevice, .fixed 192⟩))] := by decide
/-- V-RG-5. -/
theorem test_lookup_none : outs (.lookup 0xFF) State.reset = some [.result (.descriptor none)] := by decide
/-- V-HS-5. -/
theorem test_cmdHandshake_connected :
    outs (.cmdHandshake 5 [0x4E, 0x54]) up
      = some [.dispatch 0x60 5 [0x4E, 0x54] (some ⟨0x60, .bidirectional, .fixed 2⟩)] := by decide
/-- V-RG-6. -/
theorem test_cmdHandshake_shape :
    outs (.cmdHandshake 1 [0x41, 0x42, 0x43]) State.reset = some [.status .payloadShapeError] := by decide
/-- V-RG-7. -/
theorem test_cmdHandshakeReply_connects :
    outs (.cmdHandshakeReply 7 []) State.reset
      = some [.dumpReq,
          .tx ([0xF0, 0x7F, 0x00, 0x7F, 0x63, 0x00, 0x01, 0x40] ++ List.replicate 192 0 ++ [0x63, 0xF7]),
          .dispatch 0x61 7 [] (some ⟨0x61, .hostToDevice, .empty⟩)] := by decide +kernel
/-- V-RG-8. -/
theorem test_cmdHandshakeReply_wrong_way :
    outs (.cmdHandshakeReply 7 []) (State.resetWith { Config.default with dirCheck := true })
      = some [.status .wrongDirection] := by decide
/-- 42_registry_router R136: a received disconnect does not disconnect. -/
theorem test_cmdDisconnect_stays : leaves (.cmdDisconnect 3 []) up (·.conn) = some .connected := by decide
/-- 42_registry_router R135, R138: a grid frame of another length has the wrong shape. -/
theorem test_cmdGrid_shape : outs (.cmdGrid 3 [0x01]) up = some [.status .payloadShapeError] := by decide
/-- 42_registry_router R137. -/
theorem test_cmdVolume :
    outs (.cmdVolume 0 [0x1E]) up = some [.dispatch 0x21 0 [0x1E] (some ⟨0x21, .bidirectional, .variable⟩)] := by decide

/-! ## HandshakeStateMachine (V-HS) -/

/-- V-HS-3. -/
theorem test_rxframe_handshake :
    outs (.rxframe [0xF0, 0x7F, 0x00, 0x7F, 0x60, 0x05, 0x00, 0x02, 0x4E, 0x54, 0x7F, 0xF7]) State.reset
      = some [.tx [0xF0, 0x7F, 0x00, 0x7F, 0x61, 0x00, 0x00, 0x00, 0x61, 0xF7], .dumpReq,
          .tx ([0xF0, 0x7F, 0x00, 0x7F, 0x63, 0x01, 0x01, 0x40] ++ List.replicate 192 0 ++ [0x62, 0xF7]),
          .dispatch 0x60 5 [0x4E, 0x54] (some ⟨0x60, .bidirectional, .fixed 2⟩)] := by decide +kernel
/-- Program P4, step 8. -/
theorem test_rxframe_unknown :
    leaves (.rxframe unknownFrame) State.reset (fun t => (t.conn, t.retryArmed, t.txSeq, t.slots))
      = some (.connected, false, 1, []) := by decide +kernel
/-- V-HS-1. -/
theorem test_tickretry :
    outs .tickretry State.reset
      = some [.tx [0xF0, 0x7F, 0x00, 0x7F, 0x60, 0x00, 0x00, 0x02, 0x50, 0x43, 0x73, 0xF7]] := by decide
/-- V-HS-4. -/
theorem test_tickretry_connected : outs .tickretry up = some [] := by decide
/-- V-HS-6. -/
theorem test_teardown :
    outs .teardown { up with txSeq := 2 } = some [.tx [0xF0, 0x7F, 0x00, 0x7F, 0x62, 0x02, 0x00, 0x00, 0x60, 0xF7]]
      ∧ leaves .teardown { up with txSeq := 2 } (fun t => (t.conn, t.retryArmed, t.txSeq))
        = some (.disconnected, false, 3) := by decide
/-- V-HS-11. -/
theorem test_teardown_unconnected : outs .teardown State.reset = some [] := by decide
/-- V-HS-14. -/
theorem test_linkinit :
    leaves .linkinit { up with txSeq := 9, slots := [slot 2 0x1E 1], lastFlush := some 5 }
      (fun t => (t.conn, t.retryArmed, t.txSeq, t.slots, t.lastFlush)) = some (.disconnected, true, 0, [], none) := by
  decide

/-! ## MessageCoalescer (V-CO) -/

/-- Program P2, step 4: an overwrite keeps the position. -/
theorem test_queue_overwrites :
    leaves (.queue 0x21 2 [0x1E] 1) (State.reset.putSlots [slot 2 0x14 1, slot 7 0x7F 3]) (·.slots)
      = some [slot 2 0x1E 1, slot 7 0x7F 3] := by decide
/-- V-CO-8 and V-CO-13. -/
theorem test_queue_clamps_and_refuses :
    leaves (.queue 0x21 2 [0x01] 9) State.reset (fun t => (t.slots, t.out)) = some ([slot 2 0x01 3], [.status .rangeClamped])
      ∧ refuses (.queue 0x21 3 [0x01] 0) full = some .coalescerFull := by decide
/-- V-CO-4. -/
theorem test_flush_passes :
    leaves (.flush 16667) { State.reset with slots := [slot 2 0x28 1], lastFlush := some 0, txSeq := 1 }
      (fun t => (t.slots, t.lastFlush, t.txSeq, t.out))
      = some ([], some 16667, 2, [.tx [0xF0, 0x7F, 0x00, 0x7F, 0x21, 0x01, 0x00, 0x01, 0x28, 0x08, 0xF7]]) := by decide
/-- V-CO-3 and V-CO-14. -/
theorem test_flush_gate :
    leaves (.flush 16666) { State.reset with lastFlush := some 0 } (·.lastFlush) = some (some 0)
      ∧ leaves (.flush 50) { State.resetWith { Config.default with tFlushMin := 0 } with lastFlush := some 100 }
          (·.lastFlush) = some (some 100) := by decide
/-- V-CO-7: highest tier first, and the sequence number wraps. -/
theorem test_forceflush :
    leaves .forceflush { State.reset with slots := [slot 3 0x05 1, slot 7 0x7F 3], txSeq := 0x7F }
      (fun t => (t.slots, t.txSeq, t.lastFlush, t.out))
      = some ([], 1, none, [.tx [0xF0, 0x7F, 0x00, 0x7F, 0x21, 0x7F, 0x00, 0x01, 0x7F, 0x21, 0xF7],
          .tx [0xF0, 0x7F, 0x00, 0x7F, 0x21, 0x00, 0x00, 0x01, 0x05, 0x24, 0xF7]]) := by decide
/-- V-CO-9: ties go in insertion order. -/
theorem test_forceflush_ties :
    outs .forceflush (State.reset.putSlots [⟨0x21, 2, [0x01], 0⟩, ⟨0x22, 2, [0x02], 0⟩])
      = some [.tx [0xF0, 0x7F, 0x00, 0x7F, 0x21, 0x00, 0x00, 0x01, 0x01, 0x20, 0xF7],
          .tx [0xF0, 0x7F, 0x00, 0x7F, 0x22, 0x01, 0x00, 0x01, 0x02, 0x21, 0xF7]] := by decide

/-! ## SessionRingTracker (V-RT). Where cells are visible the grid is reloaded with free values, so the window alone is
compared. -/

/-- There is room for the grid frame in every state of these tests. -/
theorem room_small (a b c d : Word14) : (winAt a b c d).roomForGrid := Or.inr (show 0 < 64 by decide)

/-- An instruction that ends in WINCHANGE leaves the window it computes. -/
theorem ends_at {i : Instr} {s : State} {w w' : RingWindow} (hi : exec i s = winChange w s) (hw : w = w')
    (hs : s.roomForGrid) : ∃ t, exec i s = .next t ∧ t.win = w' := hi ▸ hw ▸ winChange_completes w hs

/-- V-RT-1: at the edge nothing happens. -/
theorem test_navleft_edge : leaves .navleft (winAt 0 0 8 3) (·.win) = some (winAt 0 0 8 3).win := by decide
theorem test_navleft : ∃ t, exec .navleft (winAt 3 0 8 3) = .next t ∧ t.win = (winAt 2 0 8 3).win :=
  ends_at (w := normalizeAt (winAt 3 0 8 3).win 2 0) rfl (by decide) (room_small 3 0 8 3)
/-- V-RT-2. -/
theorem test_navright : ∃ t, exec .navright (winAt 0 0 8 3) = .next t ∧ t.win = (winAt 1 0 8 3).win :=
  ends_at (w := normalizeAt (winAt 0 0 8 3).win 1 0) rfl (by decide) (room_small 0 0 8 3)
/-- V-RT-7, scenario D. -/
theorem test_navright_clamps : ∃ t, exec .navright (winAt 6 0 8 3) = .next t ∧ t.win = (winAt 4 0 8 3).win :=
  ends_at (w := normalizeAt (winAt 6 0 8 3).win 7 0) rfl (by decide) (room_small 6 0 8 3)
/-- V-RT-6. -/
theorem test_navup : ∃ t, exec .navup (winAt 0 1 8 3) = .next t ∧ t.win = (winAt 0 0 8 3).win :=
  ends_at (w := normalizeAt (winAt 0 1 8 3).win 0 0) rfl (by decide) (room_small 0 1 8 3)
/-- V-RT-8: both axes are normalised, whichever moved. -/
theorem test_navup_both_axes : ∃ t, exec .navup (winAt 6 0 8 3) = .next t ∧ t.win = (winAt 4 0 8 3).win := by
  have hi : exec .navup (winAt 6 0 8 3) = winChange
      (normalizeAt (winAt 6 0 8 3).win (trackOff (winAt 6 0 8 3)) (sceneOff (winAt 6 0 8 3) - 1)) (winAt 6 0 8 3) := rfl
  exact ends_at hi (by decide) (room_small 6 0 8 3)
/-- V-RT-4. -/
theorem test_navdown : ∃ t, exec .navdown (winAt 0 0 8 3) = .next t ∧ t.win = (winAt 0 1 8 3).win :=
  ends_at (w := normalizeAt (winAt 0 0 8 3).win 0 1) rfl (by decide) (room_small 0 0 8 3)
/-- V-RT-5. -/
theorem test_navdown_edge : leaves .navdown (winAt 0 1 8 3) (·.win) = some (winAt 0 1 8 3).win := by decide
/-- V-RT-13. -/
theorem test_follow : ∃ t, exec (.follow 7 2) (winAt 3 0 8 3) = .next t ∧ t.win = (winAt 4 1 8 3).win :=
  ends_at (w := normalizeAt (winAt 3 0 8 3).win 4 1) rfl (by decide) (room_small 3 0 8 3)
/-- V-RT-12: the last column and the last row are inside. -/
theorem test_follow_inside : leaves (.follow 6 1) (winAt 3 0 8 3) (·.out) = some [] := by decide
/-- V-RT-18. -/
theorem test_toabs_clamps :
    outs (.toabs 9 0) (winAt 4 0 8 3) = some [.status .rangeClamped, .result (.position 7 0)] := by decide
/-- V-RT-17. -/
theorem test_toabs : outs (.toabs 1 1) (winAt 4 0 8 3) = some [.result (.position 5 1)] := by decide
/-- V-RT-19. -/
theorem test_toring : outs (.toring 5 1) (winAt 4 0 8 3) = some [.result (.ring (some (1, 1)))] := by decide
/-- V-RT-20 and V-RT-21. -/
theorem test_toring_none :
    outs (.toring 3 0) (winAt 4 0 8 3) = some [.result (.ring none)]
      ∧ outs (.toring 7 2) (winAt 4 0 8 3) = some [.result (.ring none)] := by decide
/-- V-RT-22. -/
theorem test_settotals : ∃ t, exec (.settotals 6 3) (winAt 4 1 8 3) = .next t ∧ t.win = (winAt 2 1 6 3).win :=
  ends_at (w := normalizeAt (winAt 4 1 6 3).win 4 1) rfl (by decide) (room_small 4 1 8 3)
/-- V-RT-23, with one subscription. -/
theorem test_settotals_zero :
    leaves (.settotals 0 0) oneCell (fun t => (t.out, t.subs, t.slots))
      = some ([.windowChanged (winAt 0 0 0 0).win, .unsubscribe ⟨7⟩], [], [⟨0x63, 0, List.replicate 192 0, 1⟩]) := by
  decide +kernel
/-- V-RT-26. -/
theorem test_setoverview :
    ∃ t, exec (.setoverview 1) (winAt 0 0 8 3) = .next t ∧ t.win = { (winAt 0 0 8 3).win with overviewMode := true } :=
  ends_at (w := normalizeAt { (winAt 0 0 8 3).win with overviewMode := true } 0 0) rfl (by decide) (room_small 0 0 8 3)
/-- V-RT-27. -/
theorem test_setoverview_same : leaves (.setoverview 0) (winAt 0 0 8 3) (·.out) = some [] := by decide

/-! ## GridStateSynchronizer (V-GS) -/

/-- V-GS-3. -/
theorem test_cellupdate :
    leaves (.cellupdate 5 1 255 0 128 1) oneCell (fun t => (t.grid[5], t.slots, t.out))
      = some (⟨255, 0, 128, true⟩, [⟨0x63, 0,
          List.replicate 30 0 ++ [0x01, 0x7F, 0x00, 0x00, 0x01, 0x00] ++ List.replicate 156 0, 1⟩], []) := by
  decide +kernel
/-- V-GS-4. -/
theorem test_cellupdate_ignored : leaves (.cellupdate 0 0 9 9 9 1) oneCell (fun t => (t.slots, t.out)) = some ([], []) := by
  decide
/-- V-GS-1. -/
theorem test_render : outs .render State.reset = some [.result (.bytes (List.replicate 192 0))] := by decide +kernel
/-- Scenario C. -/
theorem test_render_scenario_c :
    outs .render { State.reset with grid := Vector.replicate 32 ⟨255, 0, 128, true⟩ }
      = some [.result (.bytes ((List.replicate 32 [0x01, 0x7F, 0x00, 0x00, 0x01, 0x00]).flatten))] := by decide +kernel
/-- V-GS-6. -/
theorem test_blend : outs (.blend 10 20 30 0) State.reset = some [.result (.color ⟨10, 20, 30⟩)] := by decide
/-- V-GS-7: whatever the parameter gives. -/
theorem test_blend_highlight :
    outs (.blend 10 20 30 1) State.reset = some [.result (.color (Config.highlight ⟨10, 20, 30⟩))] := rfl

/-! ## Witnesses: for each statement with hypotheses, a state and operands that meet all of them, clause by clause -/

/-- A run of three QUEUE events under one address, scenario E. -/
def threeCalls : List (Byte × Word14 × Bytes × Byte) := [(0x21, 2, [0x0A], 1), (0x21, 2, [0x14], 1), (0x21, 2, [0x1E], 1)]

theorem room_reset : State.reset.roomForGrid := Or.inr (show 0 < 64 by decide)

/-- Every payload byte of a replicated byte is that byte. -/
theorem small_bytes (n : Nat) : ∀ b ∈ List.replicate n (1 : Byte), b.toNat ≤ 127 := by
  intro b hb; rw [List.eq_of_mem_replicate hb]; decide

/-- The three cases of FENC and of QUEUE's payload: a high byte, one byte too many, the longest payload. -/
theorem witness_FencFramesOrRejects :
    (∃ b ∈ ([0x80] : Bytes), 127 < b.toNat)
      ∧ ((∀ b ∈ List.replicate 16384 (1 : Byte), b.toNat ≤ 127) ∧ 16383 < (List.replicate 16384 (1 : Byte)).length)
      ∧ ((∀ b ∈ List.replicate 16383 (1 : Byte), b.toNat ≤ 127) ∧ (List.replicate 16383 (1 : Byte)).length ≤ 16383) :=
  ⟨by decide, ⟨small_bytes _, by rw [List.length_replicate]; omega⟩, small_bytes _, by rw [List.length_replicate]⟩

/-- The precondition of FDEC holds of the good frame, of the shortest frame and of a buffer one byte too short. -/
theorem witness_FdecChecksInOrder :
    ∀ buf ∈ [good, [0xF0, 0x7F, 0x00, 0x7F, 0x00, 0x00, 0x00, 0x00, 0x00, 0xF7],
        [0xF0, 0x7F, 0x00, 0x7F, 0x60, 0x02, 0x00, 0x02, 0x50]],
      ∀ i b, buf[i]? = some b → 5 ≤ i → (i ≤ 7 ∨ i + 2 ≤ buf.length) → b.toNat ≤ 127 := by
  have h : ∀ buf ∈ [good, [0xF0, 0x7F, 0x00, 0x7F, 0x00, 0x00, 0x00, 0x00, 0x00, 0xF7],
      [0xF0, 0x7F, 0x00, 0x7F, 0x60, 0x02, 0x00, 0x02, 0x50]],
      ∀ i, i < 12 → 5 ≤ i → (i ≤ 7 ∨ i + 2 ≤ buf.length) → ((buf[i]?).getD 0).toNat ≤ 127 := by decide
  intro buf hbuf i b hb h5 h7
  have hlt : buf.length ≤ 12 := (by decide : ∀ buf ∈ [good, [0xF0, 0x7F, 0x00, 0x7F, 0x00, 0x00, 0x00, 0x00, 0x00, 0xF7],
    [0xF0, 0x7F, 0x00, 0x7F, 0x60, 0x02, 0x00, 0x02, 0x50]], buf.length ≤ 12) buf hbuf
  have hi : i < buf.length := (List.getElem?_eq_some_iff.1 hb).1
  have := h buf hbuf i (by omega) h5 h7
  rw [hb] at this
  exact this

/-- Each of the six clauses: nine bytes; ten bytes without the header; without the footer; a length byte of 0x80; a
payload byte and a checksum byte of 0x80; V-FD-17, and the shortest buffer with a wrong length. -/
theorem witness_FdecPlacesTheSevenBitCheck :
    (good.take 9).length < 10
      ∧ (10 ≤ (List.replicate 10 (0 : Byte)).length ∧ (List.replicate 10 (0 : Byte)).take 4 ≠ [0xF0, 0x7F, 0x00, 0x7F])
      ∧ (10 ≤ (good.take 10).length ∧ (good.take 10).take 4 = [0xF0, 0x7F, 0x00, 0x7F]
        ∧ (good.take 10)[(good.take 10).length - 1]? ≠ some 0xF7)
      ∧ (let buf : Bytes := [0xF0, 0x7F, 0x00, 0x7F, 0x60, 0x02, 0x00, 0x80, 0x00, 0xF7]
        10 ≤ buf.length ∧ buf.take 4 = [0xF0, 0x7F, 0x00, 0x7F] ∧ buf[buf.length - 1]? = some 0xF7
          ∧ buf[7]? = some 0x80 ∧ 127 < (0x80 : Byte).toNat)
      ∧ (∀ body ∈ [[0x80, 0x00], [0x00, 0x80]], body.length = (0 : Septet).toNat * 128 + (1 : Septet).toNat + 1
          ∧ ∃ b ∈ body, 127 < (b : Byte).toNat)
      ∧ (let body : Bytes := (good ++ good).drop 8 |>.dropLast
        good ++ good = [0xF0, 0x7F, 0x00, 0x7F, 0x60, (2 : Septet).setWidth 8, (0 : Septet).setWidth 8,
            (2 : Septet).setWidth 8] ++ body ++ [0xF7]
          ∧ 1 ≤ body.length ∧ body.length ≠ (0 : Septet).toNat * 128 + (2 : Septet).toNat + 1
          ∧ ∃ b ∈ body, 127 < b.toNat)
      ∧ (1 ≤ ([0x80] : Bytes).length ∧ ([0x80] : Bytes).length ≠ (0 : Septet).toNat * 128 + (1 : Septet).toNat + 1) := by
  decide

/-- FDEC of the good frame answers, and the payload of the statement's first part exists at its longest. -/
theorem witness_FdecOfFencIsTheFrame :
    ((List.replicate 16383 (1 : Byte)).length ≤ 16383 ∧ ∀ b ∈ List.replicate 16383 (1 : Byte), b.toNat ≤ 127)
      ∧ ∃ t, exec (.fdec good) State.reset = .next t :=
  ⟨⟨by rw [List.length_replicate], small_bytes _⟩, _, rfl⟩

/-- V-FD-5's payload byte. -/
theorem witness_OnePayloadByteChangedIsBadChecksum :
    ([0x50, 0x43] : Bytes).length ≤ 16383 ∧ (∀ b ∈ ([0x50, 0x43] : Bytes), b.toNat ≤ 127)
      ∧ ([0x50, 0x43] : Bytes)[0]? = some 0x50 ∧ (0x51 : Byte) ≠ 0x50 ∧ (0x51 : Byte).toNat ≤ 127 := by decide

/-- A byte with an entry and a byte without, in the canonical registry. -/
theorem witness_LookupGivesTheEntry :
    (State.reset.cfg.registry.map (·.id)).Nodup
      ∧ (∃ d ∈ State.reset.cfg.registry, d.id = 0x21) ∧ (∀ d ∈ State.reset.cfg.registry, d.id ≠ 0x05) := by decide

/-- A rejected buffer; a handshake of the wrong length; a received handshake reply with direction checking on. -/
theorem witness_RejectedFramesAreDropped :
    exec (.fdec []) State.reset
        = .next { State.reset with out := State.reset.out ++ [.result (.error .truncated)] }
      ∧ (payloadOk [0x41, 0x42, 0x43] = true
        ∧ registryAt State.reset.cfg.registry 0x60 = some ⟨0x60, .bidirectional, .fixed 2⟩
        ∧ ([0x41, 0x42, 0x43] : Bytes).length ≠ 2)
      ∧ (let s := State.resetWith { Config.default with dirCheck := true }
        payloadOk [] = true ∧ registryAt s.cfg.registry 0x61 = some ⟨0x61, .hostToDevice, .empty⟩
          ∧ s.cfg.dirCheck = true) :=
  ⟨rfl, by decide, by decide⟩

/-- Without direction checking, a frame whose entry is not `Fixed`, or is `Fixed` of its length, is accepted. -/
theorem accepts_of {s : State} {cmd : Byte} {n : Nat} (hd : s.cfg.dirCheck = false)
    (hs : ∀ d, registryAt s.cfg.registry cmd = some d → ∀ k, d.size = .fixed k → n = k) : s.accepts cmd n :=
  ⟨fun _ k h => hs _ h k rfl, fun h => absurd h (by simp [hd])⟩

theorem witness_HandshakeFrameRepliesAndConnects :
    payloadOk [0x4E, 0x54] = true ∧ State.reset.accepts 0x60 2 ∧ State.reset.conn ≠ .connected
      ∧ State.reset.roomForGrid :=
  ⟨by decide, accepts_of rfl (by intro d h k hk; cases h; cases hk; rfl), by decide, room_reset⟩

/-- An unknown command (V-HS-13), and a received handshake reply. -/
theorem witness_AnyOtherFrameConnectsWithoutReply :
    (payloadOk [0x01, 0x02, 0x03] = true ∧ (0x05 : Byte) ≠ 0x60 ∧ State.reset.accepts 0x05 3)
      ∧ (payloadOk [] = true ∧ (0x61 : Byte) ≠ 0x60 ∧ State.reset.accepts 0x61 0)
      ∧ State.reset.conn ≠ .connected ∧ State.reset.roomForGrid :=
  ⟨⟨by decide, by decide, accepts_of rfl (by intro d h; cases h)⟩,
    ⟨by decide, by decide, accepts_of rfl (by intro d h k hk; cases h; cases hk)⟩, by decide, room_reset⟩

theorem witness_FrameOnConnectedLinkIsOnlyDispatched :
    payloadOk [0x1E] = true ∧ up.accepts 0x21 1 ∧ up.conn = .connected :=
  ⟨by decide, accepts_of rfl (by intro d h k hk; cases h; cases hk), rfl⟩

/-- Room for a new slot, and room in a full table for a slot that is pending (V-CO-12). -/
theorem witness_QueueUpsertsOneSlot :
    payloadOk [0x1E] = true ∧ State.reset.roomFor 0x21 2 ∧ full.roomFor 0x21 1 :=
  ⟨by decide, Or.inr (show 0 < 64 by decide), Or.inl ⟨slot 1 1 0, by decide, rfl, rfl⟩⟩

/-- The first two clauses are FENC's (`witness_FencFramesOrRejects`); a third address in a full table (V-CO-13). -/
theorem witness_QueueRejectsWhatItCannotHold : payloadOk [0x01] = true ∧ ¬ full.roomFor 0x21 3 := by
  refine ⟨by decide, ?_⟩
  rintro (h | h)
  · exact absurd h (by decide)
  · exact absurd h (by decide)

/-- No room for the grid frame: a subscribed cell at the window's first and at its last column and row, a valid frame on
an unconnected link (V-HS-13), a window operation. -/
theorem witness_GridFrameNeedsRoom :
    ¬ crowded.roomForGrid
      ∧ ((⟨5, 1⟩ : CellKey) ∈ Subs.dom crowded.subs
        ∧ crowded.win.trackOffset.toNat ≤ (5 : Word14).toNat
        ∧ (5 : Word14).toNat < crowded.win.trackOffset.toNat + crowded.cfg.gridW.toNat
        ∧ crowded.win.sceneOffset.toNat ≤ (1 : Word14).toNat
        ∧ (1 : Word14).toNat < crowded.win.sceneOffset.toNat + crowded.cfg.gridH.toNat)
      ∧ (payloadOk [0x01, 0x02, 0x03] = true ∧ crowded.accepts 0x05 3 ∧ crowded.conn ≠ .connected)
      ∧ windowOps .navleft := by
  refine ⟨?_, by decide, ⟨by decide, accepts_of rfl (by intro d h; cases h), by decide⟩, by simp [windowOps]⟩
  rintro (h | h)
  · exact absurd h (by decide)
  · exact absurd h (by decide)
/-- R152's corner case, and the first clause of the same statement run. -/
theorem test_no_room_for_the_grid :
    refuses (.rxframe unknownFrame) crowded = some .coalescerFull
      ∧ refuses (.cellupdate 5 1 255 0 128 1) crowded = some .coalescerFull := by decide +kernel

theorem witness_QueueTwiceIsQueueOnce : ∃ t, exec (.queue 0x21 2 [0x1E] 9) State.reset = .next t := ⟨_, rfl⟩

/-- No flush yet; the gate's last closed and first open microsecond (V-CO-3, V-CO-4). -/
theorem witness_FlushPassesTheRateGate :
    State.reset.lastFlush = none
      ∧ (let s := { State.reset with lastFlush := some 0 }
        s.lastFlush = some 0 ∧ 0 + s.cfg.tFlushMin ≤ 16667 ∧ 16666 < 0 + s.cfg.tFlushMin) := by decide

theorem witness_DrainEmitsTheLastPayloadOnce :
    State.reset.slots = [] ∧ (∀ q ∈ threeCalls, payloadOk q.2.2.1 = true)
      ∧ ∃ t, execList (threeCalls.map (fun q => .queue q.1 q.2.1 q.2.2.1 q.2.2.2)) State.reset = .next t :=
  ⟨rfl, by decide, _, rfl⟩

theorem witness_CoalescerIgnoresTheConnection :
    (∃ t, exec .forceflush State.reset = .next t)
      ∧ exec (.queue 0x21 2 [0x80] 0) State.reset = .refused .payloadNotSevenBit := ⟨⟨_, rfl⟩, rfl⟩

/-- The terms of `MovesWindowTo`: a window that stays (V-RT-1); room for the grid frame; no room, and a window that
differs. They serve the statements on navigation, FOLLOW, SETTOTALS and SETOVERVIEW. -/
theorem witness_MovesWindowTo :
    normalizeAt (winAt 0 0 8 3).win (0 - 1) 0 = (winAt 0 0 8 3).win ∧ (winAt 0 0 8 3).roomForGrid
      ∧ ¬ crowded.roomForGrid ∧ normalizeAt crowded.win (4 - 1) 0 ≠ crowded.win :=
  ⟨by decide, room_small 0 0 8 3, witness_GridFrameNeedsRoom.1, by decide⟩

theorem witness_NavigationMovesOneAndClamps :
    (Instr.navleft = .navleft ∧ (2 : Nat) = (winAt 3 0 8 3).win.trackOffset.toNat - 1
        ∧ 0 = (winAt 3 0 8 3).win.sceneOffset.toNat)
      ∧ (Instr.navdown = .navdown ∧ (3 : Nat) = (winAt 3 0 8 3).win.trackOffset.toNat
        ∧ 1 = (winAt 3 0 8 3).win.sceneOffset.toNat + 1) := by decide

/-- V-RT-9, and the last position of the session from the same window. -/
theorem witness_FollowIsTheLeastShift :
    (winAt 0 0 8 3).WindowInv ∧ 1 ≤ (winAt 0 0 8 3).win.width.toNat ∧ 1 ≤ (winAt 0 0 8 3).win.height.toNat
      ∧ (winAt 0 0 8 3).win.width.toNat ≤ (winAt 0 0 8 3).win.totalTracks.toNat
      ∧ (winAt 0 0 8 3).win.height.toNat ≤ (winAt 0 0 8 3).win.totalScenes.toNat
      ∧ (6 : Word14).toNat < (winAt 0 0 8 3).win.totalTracks.toNat
      ∧ (7 : Word14).toNat < (winAt 0 0 8 3).win.totalTracks.toNat
      ∧ (2 : Word14).toNat < (winAt 0 0 8 3).win.totalScenes.toNat
      ∧ (∃ t, exec (.follow 6 0) (winAt 0 0 8 3) = .next t ∧ t.win = (winAt 3 0 8 3).win) :=
  ⟨by unfold State.WindowInv; decide, by decide, by decide, by decide, by decide, by decide, by decide, by decide,
    ends_at (w := normalizeAt (winAt 0 0 8 3).win 3 0) rfl (by decide) (room_small 0 0 8 3)⟩

/-- The hypotheses of the statements on a window change, and of the invariants of a window operation. -/
theorem witness_WindowChangeResubscribes :
    windowOps .navright ∧ Subs.wf (winAt 0 0 8 3).subs ∧ (winAt 0 0 8 3).win.width = (winAt 0 0 8 3).cfg.gridW
      ∧ (winAt 0 0 8 3).win.height = (winAt 0 0 8 3).cfg.gridH ∧ (winAt 0 0 8 3).cfg.geometryOk = true
      ∧ ∃ t, exec .navright (winAt 0 0 8 3) = .next t ∧ t.win ≠ (winAt 0 0 8 3).win := by
  refine ⟨Or.inr (Or.inl rfl), Subs.wf_nil, rfl, rfl, by decide, ?_⟩
  obtain ⟨t, ht, hw⟩ := test_navright
  exact ⟨t, ht, hw ▸ by decide⟩

theorem witness_WindowOperationsLeaveOffsetsInBounds :
    windowOps (.settotals 6 3) ∧ ∃ t, exec (.settotals 6 3) (winAt 4 1 8 3) = .next t := by
  obtain ⟨t, ht, -⟩ := test_settotals
  exact ⟨by simp [windowOps], t, ht⟩

theorem witness_WindowChangeReloadsTheGrid :
    windowOps (.follow 7 2) ∧ ∃ t, exec (.follow 7 2) (winAt 3 0 8 3) = .next t ∧ t.win ≠ (winAt 3 0 8 3).win := by
  obtain ⟨t, ht, hw⟩ := test_follow
  exact ⟨by simp [windowOps], t, ht, hw ▸ by decide⟩

/-- The last two clauses of the same statement: a cell in both sets, and a cell that enters. -/
theorem witness_WindowChangeResubscribes_clauses :
    (⟨5, 1⟩ : CellKey) ∈ Subs.dom oneCell.subs ∧ isVisible (winAt 4 0 8 3).win ⟨5, 1⟩ = true
      ∧ ((visibleCells (winAt 4 0 8 3).win).filter (fun c => !(Subs.dom oneCell.subs).contains c))[0]? = some ⟨4, 0⟩ := by
  decide

/-- A window change (above), and an update that changes a pad, each with one slot an address. -/
theorem witness_GridChangesQueueTheWholeGrid :
    (oneCell.slots.map (fun x => (x.cmd, x.key))).Nodup
      ∧ ∃ t, exec (.cellupdate 5 1 255 0 128 1) oneCell = .next t ∧ t.grid ≠ oneCell.grid := by
  obtain ⟨t, ht, hg⟩ := of_leaves (i := .cellupdate 5 1 255 0 128 1) (s := oneCell) (f := fun t => t.grid[5])
    (v := ⟨255, 0, 128, true⟩) (by decide +kernel)
  exact ⟨by decide, t, ht, fun h => absurd (h ▸ hg) (by decide)⟩

/-- A ring position in the last column and row, and one past each (V-RT-18). -/
theorem witness_ToabsAddsTheOffsets :
    1 ≤ (winAt 4 0 8 3).win.width.toNat ∧ 1 ≤ (winAt 4 0 8 3).win.height.toNat
      ∧ ((3 : Septet).toNat < (winAt 4 0 8 3).win.width.toNat ∧ (1 : Septet).toNat < (winAt 4 0 8 3).win.height.toNat)
      ∧ ¬ ((4 : Septet).toNat < (winAt 4 0 8 3).win.width.toNat) ∧ ¬ ((2 : Septet).toNat < (winAt 4 0 8 3).win.height.toNat) := by
  decide

/-- The last position inside, and the first past the last column (V-RT-21's kind). -/
theorem witness_ToringInvertsToabs :
    let w := (winAt 4 0 8 3).win
    (w.trackOffset.toNat ≤ (7 : Word14).toNat ∧ (7 : Word14).toNat < w.trackOffset.toNat + w.width.toNat
        ∧ w.sceneOffset.toNat ≤ (1 : Word14).toNat ∧ (1 : Word14).toNat < w.sceneOffset.toNat + w.height.toNat)
      ∧ ¬ ((8 : Word14).toNat < w.trackOffset.toNat + w.width.toNat) := by decide

/-- A subscribed cell inside the window, with room; and a cell that is not subscribed (V-GS-4). -/
theorem witness_CellupdateWritesOnePad :
    oneCell.cfg.geometryOk = true ∧ oneCell.roomForGrid
      ∧ ((⟨5, 1⟩ : CellKey) ∈ Subs.dom oneCell.subs
        ∧ oneCell.win.trackOffset.toNat ≤ (5 : Word14).toNat
        ∧ (5 : Word14).toNat < oneCell.win.trackOffset.toNat + oneCell.cfg.gridW.toNat
        ∧ oneCell.win.sceneOffset.toNat ≤ (1 : Word14).toNat
        ∧ (1 : Word14).toNat < oneCell.win.sceneOffset.toNat + oneCell.cfg.gridH.toNat)
      ∧ (⟨0, 0⟩ : CellKey) ∉ Subs.dom oneCell.subs :=
  ⟨by decide, Or.inr (show 0 < 64 by decide), by decide, by decide⟩

theorem witness_StepRunsTheDecodedInstruction :
    (State.reset.putPort [.event ⟨0x21, []⟩]).port = .event ⟨0x21, []⟩ :: []
      ∧ decode (State.reset.putPort [.event ⟨0x21, []⟩]).cfg (.event ⟨0x21, []⟩) = .ok .tickretry ∧ Instr.tickretry.wf = true := by decide

theorem witness_StepHoldsTheStateBetweenEvents : State.reset.port = [] := rfl

/-- The opcodes on either side of the map. -/
theorem witness_StepRefusesAnUnlistedOpcode :
    ∀ op ∈ [(0x00 : Byte), 0x53], (State.reset.putPort [.event ⟨op, []⟩]).port = .event ⟨op, []⟩ :: []
      ∧ op.toNat ∉ [0x01, 0x02, 0x03, 0x04, 0x10, 0x11, 0x18, 0x20, 0x21, 0x22, 0x23, 0x30, 0x31, 0x32, 0x40, 0x41, 0x42,
        0x43, 0x44, 0x45, 0x46, 0x47, 0x48, 0x50, 0x51, 0x52] := by decide

theorem witness_DecodeOfEncodeIsTheInstruction :
    Config.default.commandsDistinct = true ∧ otherBytes.commandsDistinct = true ∧ (Instr.follow 16383 0).wf = true ∧ (Instr.cmdVolume 127 [0x7F]).wf = true := by decide

/-- An event, a wire command and a buffer that is neither. -/
theorem witness_DecodedItemIsTheEncoding :
    decodeR0 (.event ⟨0x32, []⟩) = .ok .forceflush ∧ decodeR0 (.frame good) = .ok (.cmdHandshake 2 [0x50, 0x43])
      ∧ decodeR0 (.frame []) = .ok (.rxframe []) := by decide

theorem witness_EveryStepKeepsTheInvariant :
    (State.reset.putPort [.event ⟨0x21, []⟩]).Inv
      ∧ ∃ t, Sys2Proof.Machine.step (State.reset.putPort [.event ⟨0x21, []⟩]) = .next t :=
  ⟨⟨by decide, ⟨by decide, by decide, by decide⟩, ⟨by decide, by decide⟩, ⟨rfl, rfl, by decide, by decide⟩,
    ⟨Subs.wf_nil, fun c => by simp [State.reset, State.resetWith, resetWindow, Subs.dom, isVisible, showsAt]⟩,
    by unfold State.GridInv; decide +kernel⟩, _, rfl⟩

theorem witness_ResetMeetsTheInvariant : Config.default.wf = true := by decide

theorem witness_NoStepWritesTheConfiguration : ∃ t, Sys2Proof.Machine.step State.reset = .next t := ⟨_, rfl⟩

theorem witness_OnlyTeardownAndLinkinitLeaveConnected :
    up.conn = .connected ∧ ∃ t, exec .teardown up = .next t ∧ t.conn ≠ .connected := ⟨rfl, _, rfl, by decide⟩

theorem witness_OnlyReceptionsConnect :
    State.reset.conn ≠ .connected ∧ ∃ t, exec (.rxframe unknownFrame) State.reset = .next t ∧ t.conn = .connected :=
  ⟨by decide, of_leaves (by decide +kernel)⟩

/-- V-HS-12: the state set by hand. -/
theorem witness_NothingEntersAwaitingReply :
    ∃ t, exec .tickretry (State.reset.putConn .awaitingReply) = .next t ∧ t.conn = .awaitingReply := ⟨_, rfl, by decide⟩

/-- The statements that ask only for an answer: on the trace, on the frames, on who writes what, on the source. -/
theorem witness_TheTraceOnlyGrows :
    (∃ t, exec .linkinit up = .next t) ∧ (∃ t, exec .forceflush (State.reset.putSlots [slot 2 1 1]) = .next t) :=
  ⟨⟨_, rfl⟩, _, rfl⟩
theorem witness_FramesCarryConsecutiveSequenceNumbers :
    (∃ t, exec .linkinit up = .next t) ∧
    ∃ t, exec .forceflush { State.reset with slots := [slot 3 5 1, slot 7 0x7F 3], txSeq := 0x7F } = .next t :=
  ⟨⟨_, rfl⟩, _, rfl⟩
/-- LOOKUP is no writer of any element. -/
theorem witness_EachElementHasItsWriters :
    (∃ t, exec (.lookup 0x63) State.reset = .next t) ∧ Instr.lookup 0x63 ≠ .linkinit ∧ ¬ receptions (.lookup 0x63)
      ∧ ¬ windowOps (.lookup 0x63) ∧ Instr.lookup 0x63 ≠ .tickretry ∧ Instr.lookup 0x63 ≠ .teardown
      ∧ Instr.lookup 0x63 ≠ .forceflush ∧ (∀ now, Instr.lookup 0x63 ≠ .flush now)
      ∧ (∀ cmd key p prio, Instr.lookup 0x63 ≠ .queue cmd key p prio)
      ∧ (∀ track scene r g b occ, Instr.lookup 0x63 ≠ .cellupdate track scene r g b occ) :=
  ⟨⟨_, rfl⟩, by simp [receptions, windowOps]⟩
theorem witness_OnlyWindowOperationsCallTheSource :
    ∃ t, exec (.cellupdate 5 1 255 0 128 1) oneCell = .next t ∧ ¬ windowOps (.cellupdate 5 1 255 0 128 1) :=
  have ⟨t, ht, _⟩ := of_leaves (i := .cellupdate 5 1 255 0 128 1) (s := oneCell) (f := fun t => t.out) (v := [])
    (by decide +kernel)
  ⟨t, ht, by simp [windowOps]⟩

theorem witness_ErrorsLeaveTheStateAsItWas :
    exec (.rxframe []) State.reset = .next { State.reset with out := State.reset.out ++ [.status .truncated] }
      ∧ StatusCode.truncated ≠ .rangeClamped := ⟨rfl, by decide⟩

/-- A buffer, a FENC and a QUEUE that keep the host's duties. -/
theorem witness_EveryEventCompletesUnderTheHostsDuties :
    (Instr.rxframe good).wf = true ∧ State.reset.roomForGrid ∧ State.reset.roomFor 0x21 2
      ∧ (∀ b ∈ ([0x1E] : Bytes), b.toNat ≤ 127)
      ∧ (∀ k b, good[k]? = some b → 5 ≤ k → k + 1 < good.length → b.toNat ≤ 127) :=
  ⟨rfl, room_reset, Or.inr (show 0 < 64 by decide), by decide, fun k b hb h5 h =>
    witness_FdecChecksInOrder good (by decide) k b hb h5 (Or.inr (by omega))⟩

end Sys2Proof.Tests
end

section
/-! PROOF. The step function: what it fetches, and what it runs on what it fetched. -/

namespace Sys2Proof.Machine

/-- The oldest presented item is taken off the port; every other field stays (20_memory R67). -/
theorem takeItem_of_port_cons {s : State} {item : PortItem} {rest : List PortItem} (hport : s.port = item :: rest) :
    takeItem s = some (item, s.putPort rest) := by
  simp only [takeItem, hport]

/-- An item that decodes is processed completely, with the item itself already taken off the port (00_scope R17). -/
theorem step_of_decode_ok {s : State} {item : PortItem} {rest : List PortItem} {i : Instr}
    (hport : s.port = item :: rest) (hdecode : decode s.cfg item = .ok i) : step s = exec i (s.putPort rest) := by
  simp only [step, takeItem_of_port_cons hport, hdecode]

/-- Settles O41: the fetch and the decoding fix the step; the item's well-formedness is not needed. -/
theorem stepRunsTheDecodedInstruction : Obligations.StepRunsTheDecodedInstruction := by
  intro s item rest i hport hdecode _
  exact step_of_decode_ok hport hdecode

end Sys2Proof.Machine
end

section
/-! PROOF. What an instruction can do, said once: every later fact about `exec` is a case analysis over `Effect`, never
over the instructions. -/

namespace Sys2Proof.Machine

/-- Nothing but the trace has changed, and that by appending. -/
def OutputOnly (s t : State) : Prop := ∃ new, t = { s with out := s.out ++ new }

theorem OutputOnly.refl (s : State) : OutputOnly s s := ⟨[], by simp⟩

theorem OutputOnly.emit (s : State) (o : Output) : OutputOnly s (s.emit o) := ⟨[o], rfl⟩

theorem OutputOnly.trans {s t u : State} (hst : OutputOnly s t) (htu : OutputOnly t u) : OutputOnly s u := by
  obtain ⟨new, rfl⟩ := hst
  obtain ⟨new', rfl⟩ := htu
  exact ⟨new ++ new', by simp⟩

theorem giveResult_outputOnly {v : ResultValue} {s t : State} (h : giveResult v s = .next t) : OutputOnly s t :=
  (giveResult_eq_next v s t).1 h ▸ .emit s _

/-- A pure operation that reports a clamp on one path, as ENC14 and TOABS do (60_exceptions R222). -/
theorem reportThenResult_outputOnly {p : Prop} [Decidable p] {v : ResultValue} {c : StatusCode} {s t : State}
    (h : (if p then giveResult v (s.emit (.status c)) else giveResult v s) = .next t) : OutputOnly s t := by
  split at h
  · exact (OutputOnly.emit s _).trans (giveResult_outputOnly h)
  · exact giveResult_outputOnly h

theorem execFenc_outputOnly {cmd : Byte} {seq : Septet} {payload : Bytes} {s t : State}
    (h : execFenc cmd seq payload s = .next t) : OutputOnly s t := by
  unfold execFenc at h
  split at h
  · cases h
  · split at h
    · exact (raise_eq_next .oversize s t).1 h ▸ .emit s _
    · exact giveResult_outputOnly h

theorem execFdec_outputOnly {buf : Bytes} {s t : State} (h : execFdec buf s = .next t) : OutputOnly s t := by
  unfold execFdec at h
  split at h
  · cases h
  · exact giveResult_outputOnly h
  · exact giveResult_outputOnly h

theorem execToring_outputOnly {track scene : Word14} {s t : State} (h : execToring track scene s = .next t) :
    OutputOnly s t := by
  unfold execToring at h
  split at h <;> exact giveResult_outputOnly h

/-- What an instruction that answers has done to the state. A case names the instructions it is about, but for
`outputOnly`, which is every pure operation and every event that finds nothing to do. -/
inductive Effect (s : State) (i : Instr) (t : State) : Prop
  | outputOnly (ht : OutputOnly s t)
  | reception (hi : receptions i) (buf : Bytes) (h : receive buf s = .next t)
  | retry (hi : i = .tickretry) (ht : t = send s.cfg.cmdHandshake.value s.cfg.tag s)
  | teardown (hi : i = .teardown)
      (ht : t = send s.cfg.cmdDisconnect [] ((s.putConn .disconnected).putRetryArmed s.cfg.rearmOnTeardown))
  | linkinit (hi : i = .linkinit) (ht : t = linkReset s)
  | queue (cmd : Byte) (key : Word14) (payload : Bytes) (prio : Byte) (hi : i = .queue cmd key payload prio)
      (h : queueSlot cmd key payload prio s = .next t)
  | flush (now : Nat) (hi : i = .flush now) (ht : t = emitAll (s.putLastFlush now))
  | forceflush (hi : i = .forceflush) (ht : t = emitAll s)
  /-- The window handed to WINCHANGE is normalised and keeps its size. -/
  | window (hi : windowOps i) (w : RingWindow) (x y : Int) (hwidth : w.width = s.win.width)
      (hheight : w.height = s.win.height) (h : winChange (normalizeAt w x y) s = .next t)
  /-- The pad written lies in the configured grid. -/
  | cellupdate (track scene : Word14) (r g b : Byte) (occ : BitVec 1) (hi : i = .cellupdate track scene r g b occ)
      (pad : Nat) (c : GridCell) (hpad : pad < s.cfg.gridW.toNat * s.cfg.gridH.toNat)
      (h : queueGrid (s.putCell pad c) = .next t)

theorem inSpan_iff (pos off size : Nat) : inSpan pos off size = true ↔ off ≤ pos ∧ pos < off + size := by
  simp [inSpan]

/-- Row-major indices of ring positions inside the grid stay inside it (20_memory R56). -/
theorem padIndex_lt {gridW gridH : Septet} {x y : Nat} (hx : x < gridW.toNat) (hy : y < gridH.toNat) :
    padIndex gridW x y < gridW.toNat * gridH.toNat :=
  calc padIndex gridW x y < y * gridW.toNat + gridW.toNat := Nat.add_lt_add_left hx _
    _ = gridW.toNat * (y + 1) := by ring
    _ ≤ gridW.toNat * gridH.toNat := Nat.mul_le_mul_left _ hy

theorem execCellupdate_effect {track scene : Word14} {r g b : Byte} {occ : BitVec 1} {s t : State}
    (h : execCellupdate track scene r g b occ s = .next t) : Effect s (.cellupdate track scene r g b occ) t := by
  unfold execCellupdate at h
  split at h
  · cases h; exact .outputOnly (.refl s)
  · split at h
    · rename_i hin
      simp only [Bool.and_eq_true, inSpan_iff] at hin
      exact .cellupdate _ _ _ _ _ _ rfl _ _ (padIndex_lt (by omega) (by omega)) h
    · cases h; exact .outputOnly (.refl s)

theorem execTickretry_effect {s t : State} (h : execTickretry s = .next t) : Effect s .tickretry t := by
  unfold execTickretry at h
  split at h
  · cases h; exact .retry rfl rfl
  · cases h; exact .outputOnly (.refl s)

theorem execTeardown_effect {s t : State} (h : execTeardown s = .next t) : Effect s .teardown t := by
  unfold execTeardown at h
  split at h
  · cases h; exact .teardown rfl rfl
  · cases h; exact .outputOnly (.refl s)

theorem execFlush_effect {now : Nat} {s t : State} (h : execFlush now s = .next t) : Effect s (.flush now) t := by
  unfold execFlush at h
  split at h
  · cases h; exact .flush now rfl rfl
  · cases h; exact .outputOnly (.refl s)

/-- Every instruction that answers has one of the effects. -/
theorem exec_effect {i : Instr} {s t : State} (h : exec i s = .next t) : Effect s i t := by
  cases i with
  | enc14 v => exact .outputOnly (reportThenResult_outputOnly h)
  | dec14 | enccolor24 | encascii | lookup | render | blend => exact .outputOnly (giveResult_outputOnly h)
  | fenc => exact .outputOnly (execFenc_outputOnly h)
  | fdec => exact .outputOnly (execFdec_outputOnly h)
  | toabs => exact .outputOnly (reportThenResult_outputOnly h)
  | toring => exact .outputOnly (execToring_outputOnly h)
  | rxframe | cmdHandshake | cmdHandshakeReply | cmdDisconnect | cmdGrid | cmdVolume =>
    exact .reception (by simp [receptions]) _ h
  | tickretry => exact execTickretry_effect h
  | teardown => exact execTeardown_effect h
  | linkinit => cases h; exact .linkinit rfl rfl
  | queue => exact .queue _ _ _ _ rfl h
  | flush => exact execFlush_effect h
  | forceflush => cases h; exact .forceflush rfl rfl
  | navleft | navright | navup | navdown | follow | settotals | setoverview =>
    exact .window (by simp [windowOps]) _ _ _ (by rfl) (by rfl) h
  | cellupdate => exact execCellupdate_effect h

/-- A step that answers held the state, or ran one instruction with the oldest item taken off the port. -/
theorem step_eq_next {s t : State} (h : step s = .next t) :
    t = s ∨ ∃ i rest, exec i (s.putPort rest) = .next t := by
  match hport : s.port with
  | [] => left; simpa [step, takeItem, hport, eq_comm] using h
  | item :: rest =>
    right
    match hdecode : decode s.cfg item with
    | .ok i => exact ⟨i, rest, step_of_decode_ok hport hdecode ▸ h⟩
    | .error e => simp [step, takeItem_of_port_cons hport, hdecode] at h

end Sys2Proof.Machine
end

section
/-! PROOF. Who writes which element (10_state R37, R29), and that the trace only grows (10_state R33). -/

namespace Sys2Proof.Machine

/-! ## What the shared operations leave alone -/

/-- QUEUE writes the slots and the trace, nothing else. -/
theorem queueSlot_frame {cmd : Byte} {key : Word14} {payload : Bytes} {prio : Byte} {s t : State}
    (h : queueSlot cmd key payload prio s = .next t) :
    t.conn = s.conn ∧ t.retryArmed = s.retryArmed ∧ t.txSeq = s.txSeq ∧ t.grid = s.grid ∧ t.win = s.win
      ∧ t.lastFlush = s.lastFlush ∧ t.subs = s.subs ∧ t.cfg = s.cfg ∧ t.port = s.port ∧ t.draws = s.draws := by
  obtain ⟨-, ⟨-, rfl⟩ | ⟨-, l, -, rfl⟩⟩ := queueSlot_eq_next h
  · simp
  · split <;> simp

theorem Effect.cfg_eq {s t : State} {i : Instr} (h : Effect s i t) : t.cfg = s.cfg := by
  cases h with
  | outputOnly ht => obtain ⟨new, rfl⟩ := ht; rfl
  | reception _ _ h => obtain ⟨-, -, -, -, hcfg, -⟩ := receive_frame h; exact hcfg
  | retry _ ht | teardown _ ht | linkinit _ ht => subst ht; rfl
  | flush _ _ ht | forceflush _ ht => simp [ht, emitAll_eq]
  | queue _ _ _ _ _ h => obtain ⟨-, -, -, -, -, -, -, hcfg, -⟩ := queueSlot_frame h; exact hcfg
  | window _ _ _ _ _ _ h => obtain ⟨-, -, -, -, -, hcfg, -⟩ := winChange_frame h; exact hcfg
  | cellupdate _ _ _ _ _ _ _ _ _ _ h => obtain ⟨-, -, -, -, -, -, -, hcfg, -⟩ := queueGrid_frame h; exact hcfg

theorem exec_cfg {i : Instr} {s t : State} (h : exec i s = .next t) : t.cfg = s.cfg := (exec_effect h).cfg_eq

/-- Settles O49: a step holds the state or runs one instruction, and no effect of an instruction writes `cfg`. -/
theorem noStepWritesTheConfiguration : Obligations.NoStepWritesTheConfiguration := by
  intro s t h
  obtain rfl | ⟨i, rest, hexec⟩ := step_eq_next h
  · rfl
  · exact (exec_cfg hexec).trans (putPort_cfg s rest)

/-! ## The writers of each element -/

/-- Settles O55: each effect leaves alone every element its instruction does not own. -/
theorem eachElementHasItsWriters : Obligations.EachElementHasItsWriters := by
  intro s t i h hinit
  cases exec_effect h with
  | outputOnly ht => obtain ⟨new, rfl⟩ := ht; simp
  | reception hi _ h =>
    obtain ⟨hgrid, hwin, hflush, hsubs, -, hport, hdraws, -⟩ := receive_frame h
    simp [hi, hgrid, hwin, hflush, hsubs, hport, hdraws]
  | retry hi ht => simp [hi, ht]
  | teardown hi ht => simp [hi, ht]
  | linkinit hi _ => exact absurd hi hinit
  | queue _ _ _ _ hi h =>
    obtain ⟨hconn, harmed, hseq, hgrid, hwin, hflush, hsubs, -, hport, hdraws⟩ := queueSlot_frame h
    simp [hi, hconn, harmed, hseq, hgrid, hwin, hflush, hsubs, hport, hdraws]
  | flush _ hi ht => simp [hi, ht, emitAll_eq]
  | forceflush hi ht => simp [hi, ht, emitAll_eq]
  | window hi _ _ _ _ _ h =>
    obtain ⟨-, hconn, harmed, hseq, hflush, -, hport⟩ := winChange_frame h
    simp [hi, hconn, harmed, hseq, hflush, hport]
  | cellupdate _ _ _ _ _ _ hi _ _ _ h =>
    obtain ⟨hconn, harmed, hseq, -, hwin, hflush, hsubs, -, hport, hdraws, -⟩ := queueGrid_frame h
    simp [hi, hconn, harmed, hseq, hwin, hflush, hsubs, hport, hdraws]

/-! ## The trace -/

theorem isPrefix_out_emit (s : State) (o : Output) : s.out <+: (s.emit o).out := ⟨_, rfl⟩

theorem isPrefix_out_emitAll (s : State) : s.out <+: (emitAll s).out := by
  rw [emitAll_eq]; exact ⟨_, rfl⟩

theorem queueSlot_isPrefix_out {cmd : Byte} {key : Word14} {payload : Bytes} {prio : Byte} {s t : State}
    (h : queueSlot cmd key payload prio s = .next t) : s.out <+: t.out := by
  obtain ⟨-, ⟨-, rfl⟩ | ⟨-, l, -, rfl⟩⟩ := queueSlot_eq_next h
  · exact isPrefix_out_emit _ _
  · split
    · exact isPrefix_out_emit _ _
    · exact List.prefix_rfl

theorem isPrefix_out_reloadPad (s : State) (p : Nat) : s.out <+: (reloadPad s p).out := by
  unfold reloadPad
  split
  · exact isPrefix_out_emit _ _
  · exact List.prefix_rfl

theorem isPrefix_out_reload (s : State) : s.out <+: (reload s).out :=
  List.foldlRecOn (motive := fun t => s.out <+: t.out) _ _ List.prefix_rfl
    fun t ht p _ => ht.trans (isPrefix_out_reloadPad t p)

theorem isPrefix_out_windowMoved (w : RingWindow) (s : State) : s.out <+: (windowMoved w s).out := by
  simp [windowMoved, resubscribe_eq]

theorem winChange_isPrefix_out {w : RingWindow} {s t : State} (h : winChange w s = .next t) : s.out <+: t.out := by
  obtain ⟨-, rfl⟩ | ⟨-, hq⟩ := winChange_eq_next h
  · exact List.prefix_rfl
  · exact (isPrefix_out_windowMoved w s).trans ((isPrefix_out_reload _).trans (queueSlot_isPrefix_out hq))

theorem enterConnected_isPrefix_out {reply : Bool} {s t : State} (h : enterConnected reply s = .next t) :
    s.out <+: t.out := by
  obtain ⟨s3, hq, rfl⟩ := enterConnected_eq_next h
  have hstart : s.out <+: (dumpStart reply s).out := by simp [dumpStart]
  exact hstart.trans ((queueSlot_isPrefix_out hq).trans (isPrefix_out_emitAll s3))

theorem receive_isPrefix_out {buf : Bytes} {s t : State} (h : receive buf s = .next t) : s.out <+: t.out := by
  obtain ⟨e, -, rfl⟩ | ⟨f, -, hr⟩ := receive_eq_next h
  · exact isPrefix_out_emit _ _
  · obtain ⟨-, rfl⟩ | ⟨-, -, rfl⟩ | ⟨s1, hc, rfl⟩ := route_eq_next hr
    · exact isPrefix_out_emit _ _
    · exact isPrefix_out_emit _ _
    · obtain ⟨-, rfl⟩ | ⟨-, he⟩ := connectOn_eq_next hc
      · exact isPrefix_out_emit _ _
      · exact (enterConnected_isPrefix_out he).trans (isPrefix_out_emit _ _)

theorem Effect.isPrefix_out {s t : State} {i : Instr} (h : Effect s i t) : s.out <+: t.out := by
  cases h with
  | outputOnly ht => obtain ⟨new, rfl⟩ := ht; exact ⟨_, rfl⟩
  | reception _ _ h => exact receive_isPrefix_out h
  | retry _ ht | teardown _ ht => rw [ht, send_out]; exact ⟨_, rfl⟩
  | linkinit _ ht => rw [ht]; exact List.prefix_rfl
  | queue _ _ _ _ _ h => exact queueSlot_isPrefix_out h
  | flush now _ ht => rw [ht]; exact isPrefix_out_emitAll (s.putLastFlush now)
  | forceflush _ ht => rw [ht]; exact isPrefix_out_emitAll s
  | window _ _ _ _ _ _ h => exact winChange_isPrefix_out h
  | cellupdate _ _ _ _ _ _ _ pad c _ h => exact queueSlot_isPrefix_out (s := s.putCell pad c) h

/-- Settles O53: every effect only appends to the trace. -/
theorem theTraceOnlyGrows : Obligations.TheTraceOnlyGrows := by
  intro s t i h
  obtain ⟨new, hout⟩ := (exec_effect h).isPrefix_out
  exact ⟨new, hout.symm⟩

end Sys2Proof.Machine
end

section
/-! PROOF. The invariant of the reachable states (10_state R35): it holds at reset, each shared operation keeps it, and
so each effect of an instruction keeps it. -/

namespace Sys2Proof.Machine

/-! ## Reset -/

/-- Settles O19: the reset state is written out element by element. -/
theorem resetHoldsTheStatedValues : Obligations.ResetHoldsTheStatedValues := by
  refine ⟨fun c => ⟨rfl, rfl, rfl, rfl, fun i => ?_, rfl, rfl, rfl⟩, Config.default, rfl⟩
  exact Vector.getElem_replicate i.isLt

theorem resetWith_gridInv (c : Config) : (State.resetWith c).GridInv := fun i _ => Vector.getElem_replicate i.isLt

/-- With no totals the window shows nothing, as the empty table says. -/
theorem resetWith_subsInv (c : Config) : (State.resetWith c).SubsInv :=
  ⟨Subs.wf_nil, fun k => by simp [State.resetWith, resetWindow, Subs.dom, isVisible, showsAt]⟩

theorem resetWith_inv {c : Config} (hc : c.wf = true) : (State.resetWith c).Inv :=
  ⟨hc, ⟨List.nodup_nil, Nat.zero_le _, by simp [State.resetWith]⟩,
    ⟨by simp [State.resetWith], by simp [State.resetWith]⟩, ⟨rfl, rfl, Nat.zero_le _, Nat.zero_le _⟩,
    resetWith_subsInv c, resetWith_gridInv c⟩

/-- Settles O48: the reset state of any well-formed configuration, of which the default is one. -/
theorem resetMeetsTheInvariant : Obligations.ResetMeetsTheInvariant :=
  ⟨fun _ hc => resetWith_inv hc, resetWith_inv (by decide)⟩

/-! ## The slot table -/

theorem sameKey_iff (x y : Slot) : x.sameKey y = true ↔ (x.cmd, x.key) = (y.cmd, y.key) := by simp [Slot.sameKey]

/-- An overwrite leaves the addresses of the table as they are, in their order (44_coalescer R165). -/
theorem map_address_overwriteSlot (x : Slot) (l : List Slot) :
    (overwriteSlot x l).map (fun y => (y.cmd, y.key)) = l.map (fun y => (y.cmd, y.key)) := by
  induction l with
  | nil => rfl
  | cons y rest ih =>
    unfold overwriteSlot
    split
    · rename_i hsame; simp only [List.map_cons, (sameKey_iff y x).1 hsame]
    · simp only [List.map_cons, ih]

theorem mem_of_mem_overwriteSlot {x z : Slot} {l : List Slot} (hz : z ∈ overwriteSlot x l) : z = x ∨ z ∈ l := by
  induction l with
  | nil => simp [overwriteSlot] at hz
  | cons y rest ih =>
    unfold overwriteSlot at hz
    split at hz
    · exact (List.mem_cons.1 hz).imp_right (List.mem_cons_of_mem y)
    · rcases List.mem_cons.1 hz with rfl | hz
      · exact .inr List.mem_cons_self
      · exact (ih hz).imp_right (List.mem_cons_of_mem y)

/-- An upsert, when it finds a place: the slot of the address is overwritten, or a new one goes to the end. -/
theorem upsertSlot_eq_some {n : Nat} {x : Slot} {l l' : List Slot} (h : upsertSlot n x l = some l') :
    l' = overwriteSlot x l
      ∨ ((x.cmd, x.key) ∉ l.map (fun y => (y.cmd, y.key)) ∧ l.length < n ∧ l' = l ++ [x]) := by
  unfold upsertSlot at h
  split at h
  · cases h; exact .inl rfl
  · rename_i hnew
    split at h
    · cases h
    · rename_i hroom
      cases h
      refine .inr ⟨?_, Nat.lt_of_not_le hroom, rfl⟩
      intro hmem
      obtain ⟨y, hy, hyx⟩ := List.mem_map.1 hmem
      exact hnew (List.any_eq_true.2 ⟨y, hy, (sameKey_iff y x).2 hyx⟩)

/-- Upserting a slot that R35 (a) allows keeps R35 (a). -/
theorem upsertSlot_slotsInv {x : Slot} {l : List Slot} {s : State} (hs : s.SlotsInv)
    (hx : payloadOk x.payload = true ∧ x.prio < s.cfg.nPrio) (h : upsertSlot s.cfg.nSlots x s.slots = some l) :
    (s.putSlots l).SlotsInv := by
  obtain ⟨hnodup, hlen, hall⟩ := hs
  obtain rfl | ⟨hnew, hroom, rfl⟩ := upsertSlot_eq_some h
  · have hmap := map_address_overwriteSlot x s.slots
    refine ⟨hmap ▸ hnodup, ?_, fun z hz => ?_⟩
    · have hsame := congrArg List.length hmap
      simp only [List.length_map] at hsame
      exact hsame.trans_le hlen
    · rcases mem_of_mem_overwriteSlot hz with rfl | hz
      · exact hx
      · exact hall z hz
  · refine ⟨?_, by simpa using hroom, fun z hz => ?_⟩
    · simpa [List.nodup_append] using ⟨hnodup, by simpa using hnew⟩
    · rcases List.mem_append.1 hz with hz | hz
      · exact hall z hz
      · exact List.mem_singleton.1 hz ▸ hx

/-! ## The grid -/

/-- Writing a pad of the configured grid, or black anywhere, keeps R35 (f). -/
theorem putCell_gridInv {s : State} {p : Nat} {c : GridCell}
    (hp : p < s.cfg.gridW.toNat * s.cfg.gridH.toNat ∨ c = .black) (hs : s.GridInv) : (s.putCell p c).GridInv := by
  intro i hi
  have hget : (s.putCell p c).grid[i] = if p = i.val then c else s.grid[i] := Vector.getElem_setIfInBounds i.isLt
  rw [hget]
  split
  · rename_i hpi
    exact hp.resolve_left (hpi ▸ Nat.not_lt.2 hi)
  · exact hs i hi

theorem putCell_inv {s : State} {p : Nat} {c : GridCell}
    (hp : p < s.cfg.gridW.toNat * s.cfg.gridH.toNat ∨ c = .black) (hs : s.Inv) : (s.putCell p c).Inv := by
  obtain ⟨hwf, hslots, hlink, hwindow, hsubs, hgrid⟩ := hs
  exact ⟨hwf, hslots, hlink, hwindow, hsubs, putCell_gridInv hp hgrid⟩

/-- A pad beyond the configured grid shows no cell, so that RELOAD makes it black (46_grid_sync R203). -/
theorem reloadPad_inv {s : State} (p : Nat) (hs : s.Inv) : (reloadPad s p).Inv := by
  unfold reloadPad
  split
  · rename_i hshows
    simp only [padShowsCell, Bool.and_eq_true, decide_eq_true_eq] at hshows
    exact putCell_inv (.inl hshows.1) hs
  · exact putCell_inv (.inr rfl) hs

theorem reload_inv {s : State} (hs : s.Inv) : (reload s).Inv :=
  List.foldlRecOn (motive := State.Inv) _ _ hs fun _ ht p _ => reloadPad_inv p ht

/-! ## The subscription table -/

theorem mem_dom_eraseAll (l m : Subs) (c : CellKey) :
    c ∈ Subs.dom (l.foldl (fun m e => Subs.erase m e.1) m) ↔ c ∈ Subs.dom m ∧ c ∉ Subs.dom l := by
  induction l generalizing m with
  | nil => simp [Subs.dom]
  | cons e rest ih =>
    rw [List.foldl_cons, ih, Subs.mem_dom_erase]
    simp only [Subs.dom, List.map_cons, List.mem_cons, not_or, and_assoc]

theorem mem_dom_writeAnswers (l : List CellKey) (m : Subs) (n : Nat) (c : CellKey) :
    c ∈ Subs.dom (writeAnswers m n l) ↔ c ∈ l ∨ c ∈ Subs.dom m := by
  induction l generalizing m n with
  | nil => simp [writeAnswers]
  | cons k rest ih =>
    rw [writeAnswers, ih, Subs.mem_dom_write, List.mem_cons]
    tauto

theorem mem_dom_leftCells (w : RingWindow) (m : Subs) (c : CellKey) :
    c ∈ Subs.dom (leftCells w m) ↔ c ∈ Subs.dom m ∧ isVisible w c ≠ true := by
  simp only [Subs.dom, leftCells, List.mem_map, List.mem_filter, Bool.not_eq_true', ne_eq, Bool.not_eq_true]
  constructor
  · rintro ⟨e, ⟨he, hv⟩, rfl⟩; exact ⟨⟨e, he, rfl⟩, hv⟩
  · rintro ⟨⟨e, he, rfl⟩, hv⟩; exact ⟨e, ⟨he, hv⟩, rfl⟩

theorem mem_enteredCells (w : RingWindow) (m : Subs) (c : CellKey) :
    c ∈ enteredCells w m ↔ isVisible w c = true ∧ c ∉ Subs.dom m := by
  simp [enteredCells, mem_visibleCells]

/-- After the window's change the subscribed cells are the visible ones, whatever they were (45_ring_tracker R191). -/
theorem windowMoved_subsInv (w : RingWindow) {s : State} (hs : Subs.wf s.subs) : (windowMoved w s).SubsInv := by
  rw [windowMoved, resubscribe_eq]
  refine ⟨wf_writeAnswers _ _ (Subs.wf_eraseAll _ hs), fun c => ?_⟩
  have hdom := mem_dom_writeAnswers (enteredCells w s.subs)
    ((leftCells w s.subs).foldl (fun m e => Subs.erase m e.1) s.subs) s.draws c
  rw [mem_dom_eraseAll, mem_dom_leftCells, mem_enteredCells] at hdom
  refine hdom.trans ?_
  tauto

/-! ## The window -/

/-- A normalised window of the configured size meets R35 (c). -/
theorem normalizeAt_windowInv {s : State} {w : RingWindow} (x y : Int) (hwidth : w.width = s.cfg.gridW)
    (hheight : w.height = s.cfg.gridH) : (s.putWin (normalizeAt w x y)).WindowInv := by
  have hofNat (n : Nat) : (BitVec.ofNat 14 n).toNat ≤ n := Nat.mod_le _ _
  exact ⟨hwidth, hheight, (hofNat _).trans (clampOff_bounds x _ _).2, (hofNat _).trans (clampOff_bounds y _ _).2⟩

theorem windowMoved_inv {w : RingWindow} {s : State} (hs : s.Inv) (hw : (s.putWin w).WindowInv) :
    (windowMoved w s).Inv := by
  obtain ⟨hwf, hslots, hlink, -, ⟨hcanon, -⟩, hgrid⟩ := hs
  have hsubs := windowMoved_subsInv w hcanon
  rw [windowMoved, resubscribe_eq] at hsubs ⊢
  exact ⟨hwf, hslots, hlink, hw, hsubs, hgrid⟩

/-! ## The shared operations keep the invariant -/

theorem Config.one_le_nPrio {c : Config} (hc : c.wf = true) : 1 ≤ c.nPrio := by
  simp only [Config.wf, Config.coalescerOk, Bool.and_eq_true, decide_eq_true_eq] at hc
  obtain ⟨-, ⟨-, hprio⟩, -⟩ := hc
  exact hprio

theorem queueSlot_inv {cmd : Byte} {key : Word14} {payload : Bytes} {prio : Byte} {s t : State} (hs : s.Inv)
    (h : queueSlot cmd key payload prio s = .next t) : t.Inv := by
  obtain ⟨h7, ⟨-, rfl⟩ | ⟨hlen, l, hl, rfl⟩⟩ := queueSlot_eq_next h
  · exact hs
  · obtain ⟨hwf, hslots, hlink, hwindow, hsubs, hgrid⟩ := hs
    have htier : min prio.toNat (s.cfg.nPrio - 1) < s.cfg.nPrio := by
      have := Config.one_le_nPrio hwf
      omega
    have hput : (s.putSlots l).SlotsInv := upsertSlot_slotsInv hslots ⟨by simp [payloadOk, h7, hlen], htier⟩ hl
    split <;> exact ⟨hwf, hput, hlink, hwindow, hsubs, hgrid⟩

theorem emitAll_inv {s : State} (hs : s.Inv) : (emitAll s).Inv := by
  obtain ⟨hwf, -, hlink, hwindow, hsubs, hgrid⟩ := hs
  rw [emitAll_eq]
  exact ⟨hwf, ⟨List.nodup_nil, Nat.zero_le _, by simp⟩, hlink, hwindow, hsubs, hgrid⟩

theorem winChange_inv {w : RingWindow} {s t : State} (hs : s.Inv) (hw : (s.putWin w).WindowInv)
    (h : winChange w s = .next t) : t.Inv := by
  obtain ⟨-, rfl⟩ | ⟨-, hq⟩ := winChange_eq_next h
  · exact hs
  · exact queueSlot_inv (reload_inv (windowMoved_inv hs hw)) hq

/-- A connected link has its timer cancelled (10_state R35 (e)). -/
theorem dumpStart_inv (reply : Bool) {s : State} (hs : s.Inv) : (dumpStart reply s).Inv := by
  obtain ⟨hwf, hslots, -, hwindow, hsubs, hgrid⟩ := hs
  exact ⟨hwf, hslots, ⟨by simp [dumpStart], by simp [dumpStart]⟩, hwindow, hsubs, hgrid⟩

theorem enterConnected_inv {reply : Bool} {s t : State} (hs : s.Inv) (h : enterConnected reply s = .next t) :
    t.Inv := by
  obtain ⟨s3, hq, rfl⟩ := enterConnected_eq_next h
  exact emitAll_inv (queueSlot_inv (dumpStart_inv reply hs) hq)

theorem connectOn_inv {f : Frame} {s t : State} (hs : s.Inv) (h : connectOn f s = .next t) : t.Inv := by
  obtain ⟨-, rfl⟩ | ⟨-, he⟩ := connectOn_eq_next h
  · exact hs
  · exact enterConnected_inv hs he

theorem receive_inv {buf : Bytes} {s t : State} (hs : s.Inv) (h : receive buf s = .next t) : t.Inv := by
  obtain ⟨e, -, rfl⟩ | ⟨f, -, hr⟩ := receive_eq_next h
  · exact hs
  · obtain ⟨-, rfl⟩ | ⟨-, -, rfl⟩ | ⟨s1, hc, rfl⟩ := route_eq_next hr
    · exact hs
    · exact hs
    · exact connectOn_inv (t := s1) hs hc

/-- TEARDOWN may arm the timer, because it leaves the link unconnected (43_handshake R151). -/
theorem putConn_disconnected_inv {s : State} (armed : Bool) (hs : s.Inv) :
    ((s.putConn .disconnected).putRetryArmed armed).Inv := by
  obtain ⟨hwf, hslots, -, hwindow, hsubs, hgrid⟩ := hs
  exact ⟨hwf, hslots, ⟨by simp, by simp⟩, hwindow, hsubs, hgrid⟩

/-! ## Every step -/

/-- Port, trace, sequence counter, flush time and count of draws are in no clause of the invariant, so that an effect
on these alone keeps it by definition. -/
theorem Effect.inv {s t : State} {i : Instr} (h : Effect s i t) (hs : s.Inv) : t.Inv := by
  cases h with
  | outputOnly ht => obtain ⟨new, rfl⟩ := ht; exact hs
  | reception _ _ h => exact receive_inv hs h
  | retry _ ht => subst ht; exact hs
  | teardown _ ht => subst ht; exact putConn_disconnected_inv (s := s) _ hs
  | linkinit _ ht =>
    subst ht
    obtain ⟨hwf, -⟩ := hs
    exact resetWith_inv hwf
  | queue _ _ _ _ _ h => exact queueSlot_inv hs h
  | flush now _ ht => subst ht; exact emitAll_inv (s := s.putLastFlush now) hs
  | forceflush _ ht => subst ht; exact emitAll_inv hs
  | window _ w x y hwidth hheight h =>
    have ⟨_, _, _, ⟨hgridW, hgridH, _, _⟩, _, _⟩ := hs
    exact winChange_inv hs (normalizeAt_windowInv x y (hwidth.trans hgridW) (hheight.trans hgridH)) h
  | cellupdate _ _ _ _ _ _ _ pad c hpad h => exact queueSlot_inv (putCell_inv (.inl hpad) hs) h

/-- Settles O47: a step holds the state or runs one instruction, and every effect keeps the invariant. -/
theorem everyStepKeepsTheInvariant : Obligations.EveryStepKeepsTheInvariant := by
  intro s t hs h
  obtain rfl | ⟨i, rest, hexec⟩ := step_eq_next h
  · exact hs
  · exact (exec_effect hexec).inv (s := s.putPort rest) hs

end Sys2Proof.Machine
end

section
/-! PROOF. FDEC said once for every buffer. A buffer with the header and the footer in place is `framed`, and the checks
after those two are read off its fields; a frame is exactly a buffer FENC makes. -/

namespace Sys2Proof

/-! ## 14-bit pairs -/

theorem dec14_toNat (msb lsb : Septet) : (dec14 msb lsb).toNat = msb.toNat * 128 + lsb.toNat := by
  have hmsb : (msb.setWidth 14 <<< 7).toNat = msb.toNat <<< 7 := by
    rw [BitVec.toNat_shiftLeft, BitVec.toNat_setWidth, Nat.shiftLeft_eq, Nat.shiftLeft_eq]; omega
  have hlsb : (lsb.setWidth 14).toNat = lsb.toNat := by rw [BitVec.toNat_setWidth]; omega
  rw [dec14, BitVec.toNat_or, hmsb, hlsb, ← Nat.shiftLeft_add_eq_or_of_lt lsb.isLt, Nat.shiftLeft_eq]

theorem enc14_toNat (v : Nat) :
    (enc14 v).1.toNat = min v 16383 / 128 ∧ (enc14 v).2.toNat = min v 16383 % 128 := by
  have hmask (n : Nat) : n &&& 0x7F = n % 128 := Nat.and_two_pow_sub_one_eq_mod n 7
  simp only [enc14, lenMax, hmask, BitVec.toNat_ofNat, Nat.shiftRight_eq_div_pow]
  omega

/-- The round trip of 40_valuecodec R114, from the value. -/
theorem dec14_enc14_toNat {v : Nat} (hv : v ≤ 16383) : (dec14 (enc14 v).1 (enc14 v).2).toNat = v := by
  obtain ⟨hmsb, hlsb⟩ := enc14_toNat v
  rw [dec14_toNat, hmsb, hlsb]
  omega

/-- The round trip of 40_valuecodec R114, from the pair. -/
theorem enc14_dec14_toNat (msb lsb : Septet) : enc14 (dec14 msb lsb).toNat = (msb, lsb) := by
  obtain ⟨hmsb, hlsb⟩ := enc14_toNat (dec14 msb lsb).toNat
  rw [dec14_toNat] at hmsb hlsb ⊢
  have hm : (enc14 (msb.toNat * 128 + lsb.toNat)).1 = msb := BitVec.eq_of_toNat_eq (by omega)
  have hl : (enc14 (msb.toNat * 128 + lsb.toNat)).2 = lsb := BitVec.eq_of_toNat_eq (by omega)
  exact Prod.ext hm hl

/-! ## Bytes and seven-bit values -/

@[simp] theorem setWidth_septetByte (v : Septet) : (septetByte v).setWidth 7 = v :=
  BitVec.setWidth_setWidth_of_le v (by omega)

/-- A byte of at most 0x7F is a 7-bit quantity, zero-extended (30_encoding R93). -/
theorem septetByte_setWidth {b : Byte} (hb : b.toNat ≤ 127) : septetByte (b.setWidth 7) = b := by
  apply BitVec.eq_of_toNat_eq
  rw [septetByte_toNat, BitVec.toNat_setWidth]
  omega

theorem allSevenBit_septetBytes (seq lm ll : Septet) :
    allSevenBit [septetByte seq, septetByte lm, septetByte ll] = true := by
  simp [allSevenBit, septetByte_sevenBit]

theorem allSevenBit_eq_false_iff (p : Bytes) : allSevenBit p = false ↔ ∃ b ∈ p, 127 < b.toNat := by
  rw [← Bool.not_eq_true, allSevenBit_iff]; push Not; rfl

theorem byteAt_eq_iff {buf : Bytes} {i : Nat} (hi : i < buf.length) (b : Byte) :
    byteAt buf i = b ↔ buf[i]? = some b := by
  simp [byteAt, List.getD_eq_getElem?_getD, List.getElem?_eq_getElem hi]

/-! ## The three checks on the buffer's ends (41_framecodec R121, steps 1 to 3) -/

theorem fdec_of_short {buf : Bytes} (hlen : buf.length < 10) : fdec buf = .error .truncated := if_pos hlen

theorem fdec_of_badHeader {buf : Bytes} (hlen : 10 ≤ buf.length) (hheader : buf.take 4 ≠ frameHeader) :
    fdec buf = .error .badHeader := by
  rw [fdec, if_neg (by omega), if_pos hheader]

theorem fdec_of_badFooter {buf : Bytes} (hlen : 10 ≤ buf.length) (hheader : buf.take 4 = frameHeader)
    (hfooter : byteAt buf (buf.length - 1) ≠ frameFooter) : fdec buf = .error .badFooter := by
  rw [fdec, if_neg (by omega), if_neg (not_not.2 hheader), if_pos hfooter]

/-! ## Buffers that pass them -/

/-- A buffer with the header and the footer in place, by its fields (30_encoding R80). -/
def framed (cmd sq lm ll : Byte) (payload : Bytes) (ck : Byte) : Bytes :=
  frameHeader ++ [cmd, sq, lm, ll] ++ payload ++ [ck, frameFooter]

theorem frameBytes_eq_framed (cmd : Byte) (seq : Septet) (payload : Bytes) :
    frameBytes cmd seq payload
      = framed cmd (septetByte seq) (septetByte (enc14 payload.length).1) (septetByte (enc14 payload.length).2) payload
          (checksum cmd (septetByte seq) payload) := rfl

theorem framed_length (cmd sq lm ll : Byte) (payload : Bytes) (ck : Byte) :
    (framed cmd sq lm ll payload ck).length = 10 + payload.length := by
  simp only [framed, frameHeader, List.length_append, List.length_cons, List.length_nil]; omega

/-- The bytes from offset 8 on are the payload, the checksum and the footer. -/
theorem byteAt_framed (cmd sq lm ll : Byte) (payload : Bytes) (ck : Byte) (k : Nat) :
    byteAt (framed cmd sq lm ll payload ck) (8 + k) = byteAt (payload ++ [ck, frameFooter]) k := by
  rw [Nat.add_comm]; rfl

/-- The last two bytes, counted from the end of the bytes before them: the checksum and the footer of a frame. -/
theorem byteAt_append_pair (p : Bytes) (a b : Byte) :
    byteAt (p ++ [a, b]) p.length = a ∧ byteAt (p ++ [a, b]) (p.length + 1) = b := by
  simp [byteAt, List.getD_eq_getElem?_getD]

/-- A buffer that is long enough and has header and footer is framed. -/
theorem exists_eq_framed {buf : Bytes} (hlen : 10 ≤ buf.length) (hheader : buf.take 4 = frameHeader)
    (hfooter : byteAt buf (buf.length - 1) = frameFooter) :
    ∃ cmd sq lm ll payload ck, buf = framed cmd sq lm ll payload ck := by
  obtain ⟨tail, rfl⟩ : ∃ tail, buf = frameHeader ++ tail := ⟨buf.drop 4, by rw [← hheader, List.take_append_drop]⟩
  match tail, hlen with
  | cmd :: sq :: lm :: ll :: rest, hlen =>
    have hrest : 2 ≤ rest.length := by simpa [frameHeader] using hlen
    obtain ⟨body, footer, rfl⟩ := List.eq_nil_or_concat' rest |>.resolve_left (by rintro rfl; simp at hrest)
    obtain ⟨payload, ck, rfl⟩ := List.eq_nil_or_concat' body |>.resolve_left (by rintro rfl; simp at hrest)
    have hlast : footer = frameFooter := by
      simpa [frameHeader, byteAt, List.getD_eq_getElem?_getD] using hfooter
    exact ⟨cmd, sq, lm, ll, payload, ck, by simp [framed, hlast]⟩

/-- FDEC on a framed buffer: the seven-bit test of sequence and length, the length test, the seven-bit test of payload
and checksum, the checksum test (41_framecodec R121, steps 4 to 6; log 8). -/
theorem fdec_framed (cmd sq lm ll : Byte) (payload : Bytes) (ck : Byte) :
    fdec (framed cmd sq lm ll payload ck)
      = if allSevenBit [sq, lm, ll] = false then .notSevenBit
        else if payload.length ≠ (dec14 (lm.setWidth 7) (ll.setWidth 7)).toNat then .error .lengthMismatch
        else if allSevenBit (payload ++ [ck]) = false then .notSevenBit
        else if ck ≠ checksum cmd sq payload then .error .badChecksum
        else .frame ⟨cmd, sq, payload.length, payload, ck⟩ := by
  obtain ⟨hck, hfoot⟩ := byteAt_append_pair payload ck frameFooter
  have hlast : byteAt (framed cmd sq lm ll payload ck) (10 + payload.length - 1) = frameFooter := by
    rw [show 10 + payload.length - 1 = 8 + (payload.length + 1) by omega, byteAt_framed, hfoot]
  have hheader : (framed cmd sq lm ll payload ck).take 4 = frameHeader := rfl
  have hfields : ((framed cmd sq lm ll payload ck).drop 5).take 3 = [sq, lm, ll] := rfl
  have hdrop : (framed cmd sq lm ll payload ck).drop 8 = payload ++ [ck, frameFooter] := rfl
  have hcmd : byteAt (framed cmd sq lm ll payload ck) 4 = cmd := rfl
  have hsq : byteAt (framed cmd sq lm ll payload ck) 5 = sq := rfl
  have hfield : lengthField (framed cmd sq lm ll payload ck) = (dec14 (lm.setWidth 7) (ll.setWidth 7)).toNat := rfl
  rw [fdec, framed_length, if_neg (by omega), if_neg (not_not.2 hheader), if_neg (not_not.2 hlast), hfields, hfield,
    hdrop, Nat.add_sub_cancel_left]
  simp only [Bool.not_eq_true']
  by_cases hlen : payload.length = (dec14 (lm.setWidth 7) (ll.setWidth 7)).toNat
  · have hbody : (payload ++ [ck, frameFooter]).take (payload.length + 1) = payload ++ [ck] :=
      List.take_length_add_append 1
    have hpayload : (payload ++ [ck, frameFooter]).take payload.length = payload := List.take_left
    simp only [← hlen, hbody, hpayload, byteAt_framed, hck, hcmd, hsq]
    by_cases hsum : ck = checksum cmd sq payload
    · rw [← hsum]
    · rw [if_pos hsum, if_pos hsum]
  · simp only [ne_eq, hlen, not_false_eq_true, if_true]

/-- FDEC on a framed buffer with seven-bit sequence and length bytes. -/
theorem fdec_framed_septets (cmd : Byte) (seq lm ll : Septet) (payload : Bytes) (ck : Byte) :
    fdec (framed cmd (septetByte seq) (septetByte lm) (septetByte ll) payload ck)
      = if payload.length ≠ lm.toNat * 128 + ll.toNat then .error .lengthMismatch
        else if allSevenBit (payload ++ [ck]) = false then .notSevenBit
        else if ck ≠ checksum cmd (septetByte seq) payload then .error .badChecksum
        else .frame ⟨cmd, septetByte seq, payload.length, payload, ck⟩ := by
  rw [fdec_framed, if_neg (by simp [allSevenBit_septetBytes]), setWidth_septetByte, setWidth_septetByte, dec14_toNat]

/-- The bytes between the length field and the footer are a payload and a checksum. -/
theorem exists_eq_framed_of_body (cmd : Byte) (seq lm ll : Septet) {body : Bytes} (hbody : 1 ≤ body.length) :
    ∃ payload ck, body = payload ++ [ck]
      ∧ [0xF0, 0x7F, 0x00, 0x7F, cmd, seq.setWidth 8, lm.setWidth 8, ll.setWidth 8] ++ body ++ [0xF7]
        = framed cmd (septetByte seq) (septetByte lm) (septetByte ll) payload ck := by
  obtain ⟨payload, ck, rfl⟩ := List.eq_nil_or_concat' body |>.resolve_left (by rintro rfl; simp at hbody)
  exact ⟨payload, ck, rfl, by simp [framed, frameHeader, frameFooter, septetByte]⟩

/-- A sequence or length byte above 0x7F, in a buffer whose ends are in place (log 8). -/
theorem fdec_of_header_not_sevenBit {buf : Bytes} (hlen : 10 ≤ buf.length) (hheader : buf.take 4 = frameHeader)
    (hfooter : byteAt buf (buf.length - 1) = frameFooter)
    (hbyte : ∃ i b, 5 ≤ i ∧ i ≤ 7 ∧ buf[i]? = some b ∧ 127 < b.toNat) : fdec buf = .notSevenBit := by
  obtain ⟨cmd, sq, lm, ll, payload, ck, rfl⟩ := exists_eq_framed hlen hheader hfooter
  obtain ⟨i, b, h5, h7, hb, hbig⟩ := hbyte
  obtain ⟨k, rfl⟩ := Nat.exists_eq_add_of_le h5
  have hmem : b ∈ [sq, lm, ll] := by
    have hk : k < 3 := by omega
    have hget : (framed cmd sq lm ll payload ck)[5 + k]? = ([sq, lm, ll] ++ (payload ++ [ck, frameFooter]))[k]? := by
      rw [Nat.add_comm]; rfl
    rw [hget, List.getElem?_append_left hk] at hb
    exact List.mem_of_getElem? hb
  rw [fdec_framed, if_pos ((allSevenBit_eq_false_iff _).2 ⟨b, hmem, hbig⟩)]

/-! ## Frames -/

/-- The frame of FENC's operands (41_framecodec R120). -/
def fencFrame (cmd : Byte) (seq : Septet) (payload : Bytes) : Frame :=
  ⟨cmd, septetByte seq, payload.length, payload, checksum cmd (septetByte seq) payload⟩

theorem checksum_le (cmd sq : Byte) (payload : Bytes) : (checksum cmd sq payload).toNat ≤ 127 := by
  rw [checksum, BitVec.toNat_and]; exact Nat.and_le_right

/-- FDEC of a frame FENC makes is the frame of FENC's operands (41_framecodec R122). -/
theorem fdec_frameBytes {cmd : Byte} {seq : Septet} {payload : Bytes} (hp : payloadOk payload = true) :
    fdec (frameBytes cmd seq payload) = .frame (fencFrame cmd seq payload) := by
  obtain ⟨hlen, hseven⟩ := (payloadOk_iff payload).1 hp
  have hbody : allSevenBit (payload ++ [checksum cmd (septetByte seq) payload]) = true := by
    simpa [allSevenBit_iff, checksum_le] using hseven
  rw [frameBytes_eq_framed, fdec_framed, setWidth_septetByte, setWidth_septetByte, dec14_enc14_toNat hlen,
    allSevenBit_septetBytes, hbody]
  simp [fencFrame]

/-- Only what FENC makes decodes to a frame. -/
theorem eq_frameBytes_of_fdec {buf : Bytes} {f : Frame} (h : fdec buf = .frame f) :
    ∃ cmd seq payload, payloadOk payload = true ∧ buf = frameBytes cmd seq payload ∧ f = fencFrame cmd seq payload := by
  have hlen : 10 ≤ buf.length := by
    by_contra hlen; rw [fdec_of_short (by omega)] at h; cases h
  have hheader : buf.take 4 = frameHeader := by
    by_contra hheader; rw [fdec_of_badHeader hlen hheader] at h; cases h
  have hfooter : byteAt buf (buf.length - 1) = frameFooter := by
    by_contra hfooter; rw [fdec_of_badFooter hlen hheader hfooter] at h; cases h
  obtain ⟨cmd, sq, lm, ll, payload, ck, rfl⟩ := exists_eq_framed hlen hheader hfooter
  rw [fdec_framed] at h
  split_ifs at h with hfields hlength hbody hsum
  cases h
  simp only [Bool.not_eq_false, allSevenBit_iff, List.mem_cons, List.not_mem_nil, or_false, forall_eq,
    List.mem_append, or_imp, forall_and, not_not] at hfields hbody hlength hsum
  obtain ⟨hsq, hlm, hll⟩ := hfields
  obtain ⟨hpayload, -⟩ := hbody
  refine ⟨cmd, sq.setWidth 7, payload, (payloadOk_iff payload).2 ⟨?_, hpayload⟩, ?_, ?_⟩
  · rw [hlength]; exact Nat.le_of_lt_succ (BitVec.isLt _)
  · rw [frameBytes_eq_framed, hlength, enc14_dec14_toNat, septetByte_setWidth hsq, septetByte_setWidth hlm,
      septetByte_setWidth hll, ← hsum]
  · rw [fencFrame, septetByte_setWidth hsq, ← hsum]

end Sys2Proof

namespace Sys2Proof.Machine

/-! ## FDEC and RXFRAME -/

theorem exec_fdec_of_error {buf : Bytes} {e : FrameError} (s : State) (h : fdec buf = .error e) :
    exec (.fdec buf) s = .next { s with out := s.out ++ [.result (.error e)] } := by
  simp only [exec, execFdec, h]; rfl

theorem exec_of_notSevenBit {buf : Bytes} (s : State) (h : fdec buf = .notSevenBit) :
    exec (.fdec buf) s = .refused .bufferNotSevenBit ∧ exec (.rxframe buf) s = .refused .bufferNotSevenBit := by
  simp only [exec, execFdec, execRxframe, receive, h, and_self]

/-- Settles O8: the three checks on the buffer's ends, then the checks on the fields of a framed buffer. -/
theorem fdecPlacesTheSevenBitCheck : Obligations.FdecPlacesTheSevenBitCheck := by
  intro s buf
  have hlast (hlen : 10 ≤ buf.length) :
      byteAt buf (buf.length - 1) = frameFooter ↔ buf[buf.length - 1]? = some 0xF7 :=
    byteAt_eq_iff (by omega) _
  refine ⟨fun hlen => ?short, fun hlen hheader => ?badHeader, fun hlen hheader hfooter => ?badFooter,
    fun hlen hheader hfooter hbyte => ?fieldByte, ?bodyByte, ?wrongLength⟩
  case short => exact exec_fdec_of_error s (fdec_of_short hlen)
  case badHeader => exact exec_fdec_of_error s (fdec_of_badHeader hlen hheader)
  case badFooter => exact exec_fdec_of_error s (fdec_of_badFooter hlen hheader (mt (hlast hlen).1 hfooter))
  case fieldByte =>
    exact exec_of_notSevenBit s (fdec_of_header_not_sevenBit hlen hheader ((hlast hlen).2 hfooter) hbyte)
  case bodyByte =>
    rintro seq lm ll cmd body rfl hlength hbyte
    obtain ⟨payload, ck, rfl, hframed⟩ := exists_eq_framed_of_body cmd seq lm ll (body := body) (by omega)
    refine exec_of_notSevenBit s ?_
    rw [hframed, fdec_framed_septets, if_neg (by simpa using hlength), if_pos ((allSevenBit_eq_false_iff _).2 hbyte)]
  case wrongLength =>
    rintro seq lm ll cmd body rfl hbody hlength
    obtain ⟨payload, ck, rfl, hframed⟩ := exists_eq_framed_of_body cmd seq lm ll hbody
    refine exec_fdec_of_error s ?_
    rw [hframed, fdec_framed_septets, if_pos (by simpa using hlength)]

end Sys2Proof.Machine
end

section
/-! PROOF. The encoding of the port and the wire: an event record is read back exactly from its encoding, a buffer is a
wire command exactly when it is that command's frame, and a record outside the opcode map is no event. -/

namespace Sys2Proof

/-! ## Operands -/

theorem asField_eq_some_iff {w : Nat} (o : Operand) (v : BitVec w) : o.asField w = some v ↔ o = fieldOf v := by
  cases o with
  | field width value =>
    simp only [Operand.asField, fieldOf, Operand.field.injEq, Option.ite_none_right_eq_some, Option.some.injEq]
    constructor
    · rintro ⟨⟨rfl, hvalue⟩, rfl⟩
      exact ⟨rfl, (Nat.mod_eq_of_lt hvalue).symm⟩
    · rintro ⟨rfl, rfl⟩
      exact ⟨⟨rfl, v.isLt⟩, by simp⟩
  | bytes _ => simp [Operand.asField, fieldOf]
  | time _ => simp [Operand.asField, fieldOf]

theorem asBytes_eq_some_iff (o : Operand) (b : Bytes) : o.asBytes = some b ↔ o = .bytes b := by
  cases o <;> simp [Operand.asBytes]

theorem asTime_eq_some_iff (o : Operand) (t : Nat) : o.asTime = some t ↔ o = .time t := by
  cases o <;> simp [Operand.asTime]

@[simp] theorem asField_fieldOf {w : Nat} (v : BitVec w) : (fieldOf v).asField w = some v :=
  (asField_eq_some_iff _ v).2 rfl

@[simp] theorem asBytes_bytes (b : Bytes) : (Operand.bytes b).asBytes = some b := rfl

@[simp] theorem asTime_time (t : Nat) : (Operand.time t).asTime = some t := rfl

/-! ## Event records -/

/-- What the opcode map reads from operands is encoded with those operands. -/
theorem encode_of_eventInstr (c : Config) {op : Nat} {operands : List Operand} {i : Instr}
    (h : eventInstr op operands = some i) : encode c i = eventItem (BitVec.ofNat 8 op) operands := by
  unfold eventInstr at h
  split at h <;>
    simp only [Option.bind_eq_bind, Option.bind_eq_some_iff, Option.pure_def, Option.some.injEq, reduceCtorEq,
      asField_eq_some_iff, asBytes_eq_some_iff, asTime_eq_some_iff] at h
  -- the events without operands leave nothing to take apart
  all_goals
    try casesm* ∃ _, _, _ ∧ _
    subst_vars
    rfl

/-- The opcode map reads from a record exactly the instruction the record encodes (30_encoding R91). -/
theorem eventInstr_eq_some_iff (c : Config) (r : EventRecord) (i : Instr) :
    eventInstr r.op.toNat r.operands = some i ↔ encode c i = .event r := by
  constructor
  · intro h
    simpa [eventItem] using encode_of_eventInstr c h
  · intro h
    cases i <;> cases h <;> simp [eventInstr]

theorem decode_event_eq_ok_iff (c : Config) (r : EventRecord) (i : Instr) :
    decode c (.event r) = .ok i ↔ encode c i = .event r := by
  rw [← eventInstr_eq_some_iff, decode, decodeEvent]
  cases hinstr : eventInstr r.op.toNat r.operands with
  | some j => simp
  | none => simp only [reduceCtorEq, iff_false]; split <;> simp

/-- An event's instruction has no payload of a wire command to check. -/
theorem wf_of_encode_event {c : Config} {r : EventRecord} {i : Instr} (h : encode c i = .event r) : i.wf = true := by
  cases i <;> cases h <;> rfl

/-- The opcode map (30_encoding R91) lists every opcode an instruction is encoded with. -/
theorem operandLayout_isSome_of_encode {c : Config} {r : EventRecord} {i : Instr} (h : encode c i = .event r) :
    (operandLayout r.op.toNat).isSome = true := by
  cases i <;> cases h <;> rfl

/-- A record whose opcode is not in the opcode map is no event (30_encoding R100). -/
theorem decodeEvent_of_operandLayout_none {r : EventRecord} (h : operandLayout r.op.toNat = none) :
    decodeEvent r = .error (.unknownOpcode r.op) := by
  have hinstr : eventInstr r.op.toNat r.operands = none := by
    by_contra hne
    obtain ⟨i, hi⟩ := Option.ne_none_iff_exists'.1 hne
    have hlayout := operandLayout_isSome_of_encode ((eventInstr_eq_some_iff Config.default r i).1 hi)
    simp [h] at hlayout
  simp [decodeEvent, hinstr, h]

/-! ## Wire commands -/

/-- `i` is the wire command of the byte `cmd` under a configuration (42_registry_router R133 to R137). -/
inductive IsWireCommand (c : Config) (seq : Septet) (payload : Bytes) : Byte → Instr → Prop
  | handshake : IsWireCommand c seq payload c.cmdHandshake.value (.cmdHandshake seq payload)
  | handshakeReply : IsWireCommand c seq payload c.cmdHandshakeReply (.cmdHandshakeReply seq payload)
  | disconnect : IsWireCommand c seq payload c.cmdDisconnect (.cmdDisconnect seq payload)
  | grid : IsWireCommand c seq payload c.cmdGrid (.cmdGrid seq payload)
  | volume : IsWireCommand c seq payload c.cmdVolume (.cmdVolume seq payload)

theorem IsWireCommand.encode_eq {c : Config} {seq : Septet} {payload : Bytes} {cmd : Byte} {i : Instr}
    (h : IsWireCommand c seq payload cmd i) : encode c i = .frame (frameBytes cmd seq payload) := by
  cases h <;> rfl

theorem IsWireCommand.wf_eq {c : Config} {seq : Septet} {payload : Bytes} {cmd : Byte} {i : Instr}
    (h : IsWireCommand c seq payload cmd i) : i.wf = payloadOk payload := by
  cases h <;> rfl

theorem IsWireCommand.ne_rxframe {c : Config} {seq : Septet} {payload : Bytes} {cmd : Byte} {i : Instr}
    (h : IsWireCommand c seq payload cmd i) (buf : Bytes) : i ≠ .rxframe buf := by
  cases h <;> simp

/-- Only a wire command is encoded as a buffer. -/
theorem isWireCommand_of_encode {c : Config} {i : Instr} {buf : Bytes} (h : encode c i = .frame buf) :
    ∃ cmd seq payload, IsWireCommand c seq payload cmd i ∧ buf = frameBytes cmd seq payload := by
  cases i with
  | cmdHandshake seq payload => cases h; exact ⟨_, seq, payload, .handshake, rfl⟩
  | cmdHandshakeReply seq payload => cases h; exact ⟨_, seq, payload, .handshakeReply, rfl⟩
  | cmdDisconnect seq payload => cases h; exact ⟨_, seq, payload, .disconnect, rfl⟩
  | cmdGrid seq payload => cases h; exact ⟨_, seq, payload, .grid, rfl⟩
  | cmdVolume seq payload => cases h; exact ⟨_, seq, payload, .volume, rfl⟩
  | _ => cases h

/-- The five bytes, in the order in which the decoder compares them. -/
def Config.commandBytes (c : Config) : List Byte :=
  [c.cmdHandshake.value, c.cmdHandshakeReply, c.cmdDisconnect, c.cmdGrid, c.cmdVolume]

theorem wireInstr_eq_none_iff (c : Config) (cmd : Byte) (seq : Septet) (payload : Bytes) :
    wireInstr c cmd seq payload = none ↔ cmd ∉ c.commandBytes := by
  unfold wireInstr Config.commandBytes
  split_ifs <;> simp_all

theorem IsWireCommand.mem_commandBytes {c : Config} {seq : Septet} {payload : Bytes} {cmd : Byte} {i : Instr}
    (h : IsWireCommand c seq payload cmd i) : cmd ∈ c.commandBytes := by
  cases h <;> simp [Config.commandBytes]

theorem isWireCommand_of_wireInstr {c : Config} {cmd : Byte} {seq : Septet} {payload : Bytes} {i : Instr}
    (h : wireInstr c cmd seq payload = some i) : IsWireCommand c seq payload cmd i := by
  unfold wireInstr at h
  split_ifs at h <;> cases h <;> subst cmd <;> constructor

/-- With five different bytes, a wire command is the one its byte is read as (log 10). -/
theorem wireInstr_of_isWireCommand {c : Config} (hc : c.commandsDistinct = true) {cmd : Byte} {seq : Septet}
    {payload : Bytes} {i : Instr} (h : IsWireCommand c seq payload cmd i) : wireInstr c cmd seq payload = some i := by
  simp only [Config.commandsDistinct, decide_eq_true_eq, List.nodup_cons, List.mem_cons, not_or] at hc
  cases h <;> simp_all [wireInstr, eq_comm]

/-! ## Buffers -/

theorem decodeFrame_frameBytes (c : Config) (cmd : Byte) (seq : Septet) {payload : Bytes}
    (hp : payloadOk payload = true) :
    decodeFrame c (frameBytes cmd seq payload)
      = (wireInstr c cmd seq payload).getD (.rxframe (frameBytes cmd seq payload)) := by
  rw [decodeFrame, fdec_frameBytes hp]
  simp [fencFrame]

theorem decodeFrame_of_isWireCommand {c : Config} (hc : c.commandsDistinct = true) {cmd : Byte} {seq : Septet}
    {payload : Bytes} {i : Instr} (hi : IsWireCommand c seq payload cmd i) (hp : payloadOk payload = true) :
    decodeFrame c (frameBytes cmd seq payload) = i := by
  rw [decodeFrame_frameBytes c cmd seq hp, wireInstr_of_isWireCommand hc hi, Option.getD_some]

/-- A buffer is read as a wire command, whose frame it is, or as RXFRAME (log 10). -/
theorem decodeFrame_cases (c : Config) (buf : Bytes) :
    (∃ cmd seq payload, payloadOk payload = true ∧ buf = frameBytes cmd seq payload
        ∧ IsWireCommand c seq payload cmd (decodeFrame c buf))
      ∨ decodeFrame c buf = .rxframe buf := by
  cases hf : fdec buf with
  | frame f =>
    obtain ⟨cmd, seq, payload, hp, rfl, -⟩ := eq_frameBytes_of_fdec hf
    rw [decodeFrame_frameBytes c cmd seq hp]
    cases hw : wireInstr c cmd seq payload with
    | some i => exact .inl ⟨cmd, seq, payload, hp, rfl, isWireCommand_of_wireInstr hw⟩
    | none => exact .inr rfl
  | error e => right; rw [decodeFrame, hf]
  | notSevenBit => right; rw [decodeFrame, hf]

/-- What is read as RXFRAME is no wire command's frame. -/
theorem encode_ne_of_decodeFrame_eq_rxframe {c : Config} {buf : Bytes} (h : decodeFrame c buf = .rxframe buf)
    {j : Instr} (hj : j.wf = true) : encode c j ≠ .frame buf := by
  intro henc
  obtain ⟨cmd, seq, payload, hcommand, rfl⟩ := isWireCommand_of_encode henc
  rw [decodeFrame_frameBytes c cmd seq (hcommand.wf_eq ▸ hj)] at h
  obtain ⟨i, hi⟩ : ∃ i, wireInstr c cmd seq payload = some i := by
    rw [← Option.ne_none_iff_exists', Ne, wireInstr_eq_none_iff, not_not]; exact hcommand.mem_commandBytes
  rw [hi] at h
  exact (isWireCommand_of_wireInstr hi).ne_rxframe _ h

/-! ## The statements -/

/-- Settles O45: an event record is read back by the opcode map, a wire command's frame by FDEC and its byte. -/
theorem decodeOfEncodeIsTheInstruction : Obligations.DecodeOfEncodeIsTheInstruction := by
  intro c i hc hi
  cases henc : encode c i with
  | event r => exact (decode_event_eq_ok_iff c r i).2 henc
  | frame buf =>
    obtain ⟨cmd, seq, payload, hcommand, rfl⟩ := isWireCommand_of_encode henc
    exact congrArg Except.ok (decodeFrame_of_isWireCommand hc hcommand (hcommand.wf_eq ▸ hi))

/-- Settles O46: a record is its instruction's encoding; a buffer is a wire command's, or nothing's. -/
theorem decodedItemIsTheEncoding : Obligations.DecodedItemIsTheEncoding := by
  intro c item i h
  cases item with
  | event r =>
    have henc : encode c i = .event r := (decode_event_eq_ok_iff c r i).1 h
    exact ⟨wf_of_encode_event henc, .inl henc⟩
  | frame buf =>
    obtain rfl : decodeFrame c buf = i := Except.ok.inj h
    obtain ⟨cmd, seq, payload, hp, rfl, hcommand⟩ | hrx := decodeFrame_cases c buf
    · exact ⟨hcommand.wf_eq.trans hp, .inl hcommand.encode_eq⟩
    · rw [hrx]
      exact ⟨rfl, .inr ⟨buf, rfl, rfl, fun j _ hj => encode_ne_of_decodeFrame_eq_rxframe hrx hj⟩⟩

/-- Settles O44: each written-out record is its instruction's encoding, and the buffer is the handshake's frame, whose
byte is compared first. -/
theorem writtenOutItemsDecode : Obligations.WrittenOutItemsDecode := by
  intro c
  refine ⟨(decode_event_eq_ok_iff c _ _).2 rfl, (decode_event_eq_ok_iff c _ _).2 rfl,
    (decode_event_eq_ok_iff c _ _).2 rfl, (decode_event_eq_ok_iff c _ _).2 rfl, ?_⟩
  exact congrArg Except.ok (decodeFrame_frameBytes c 0x60 2 (payload := [0x50, 0x43]) rfl)

end Sys2Proof

namespace Sys2Proof.Machine

theorem step_of_decode_error {s : State} {item : PortItem} {rest : List PortItem} {e : DecodeError}
    (hport : s.port = item :: rest) (hdecode : decode s.cfg item = .error e) : step s = .refused (.noEvent e) := by
  simp only [step, takeItem_of_port_cons hport, hdecode]

/-- Settles O43: the opcode map has no row for the opcode. -/
theorem stepRefusesAnUnlistedOpcode : Obligations.StepRefusesAnUnlistedOpcode := by
  intro s op operands rest hport hop
  have hlayout : operandLayout op.toNat = none := by
    unfold operandLayout
    split <;> simp_all
  exact step_of_decode_error hport (decodeEvent_of_operandLayout_none hlayout)

end Sys2Proof.Machine
end

section
/-! PROOF. The value codec (40_valuecodec): each operand assembly by quotient and remainder, what each of the four
operations leaves, and the statements from both. -/

namespace Sys2Proof

/-! ## 14-bit pairs and colours -/

theorem enc14_eq (v : Nat) :
    enc14 v = (BitVec.ofNat 7 (min v 16383 / 128), BitVec.ofNat 7 (min v 16383 % 128)) := by
  obtain ⟨hmsb, hlsb⟩ := enc14_toNat v
  rw [← hmsb, ← hlsb, BitVec.ofNat_toNat, BitVec.ofNat_toNat, BitVec.setWidth_eq, BitVec.setWidth_eq]

theorem dec14_eq (msb lsb : Septet) : dec14 msb lsb = BitVec.ofNat 14 (msb.toNat * 128 + lsb.toNat) := by
  rw [← dec14_toNat, BitVec.ofNat_toNat, BitVec.setWidth_eq]

/-- The round trip of 40_valuecodec R114 over every value, those above the clamp included. -/
theorem dec14_enc14 (v : Nat) : dec14 (enc14 v).1 (enc14 v).2 = BitVec.ofNat 14 (min v 16383) := by
  obtain ⟨hmsb, hlsb⟩ := enc14_toNat v
  rw [dec14_eq, hmsb, hlsb, Nat.div_add_mod']

/-- A colour channel is below the clamp, so its two wire bytes are its own quotient and remainder. -/
theorem enc14Bytes_of_byte (c : Byte) :
    enc14Bytes c.toNat = [BitVec.ofNat 8 (c.toNat / 128), BitVec.ofNat 8 (c.toNat % 128)] := by
  obtain ⟨hmsb, hlsb⟩ := enc14_toNat c.toNat
  have hmin : min c.toNat 16383 = c.toNat := by omega
  rw [hmin] at hmsb hlsb
  rw [← hmsb, ← hlsb, BitVec.ofNat_toNat, BitVec.ofNat_toNat]; rfl

/-! ## Text -/

theorem and_sevenBitMask (c : Byte) : c &&& 0x7F = BitVec.ofNat 8 (c.toNat % 128) := by
  apply BitVec.eq_of_toNat_eq
  have hmask : c.toNat &&& (0x7F : Byte).toNat = c.toNat % 128 := Nat.and_two_pow_sub_one_eq_mod c.toNat 7
  rw [BitVec.toNat_and, hmask, BitVec.toNat_ofNat]
  omega

theorem asciiField_length (text : Bytes) (maxLen : Byte) :
    (asciiField text maxLen).length = 1 + min text.length (min maxLen.toNat 127) := by
  simp only [asciiField, List.length_cons, List.length_map, List.length_take]; omega

theorem asciiField_getElem?_zero (text : Bytes) (maxLen : Byte) :
    (asciiField text maxLen)[0]? = some (BitVec.ofNat 8 (min text.length (min maxLen.toNat 127))) := rfl

theorem asciiField_getElem?_succ {text : Bytes} {maxLen : Byte} {i : Nat}
    (hi : i < min text.length (min maxLen.toNat 127)) :
    (asciiField text maxLen)[i + 1]? = text[i]?.map (fun c => BitVec.ofNat 8 (c.toNat % 128)) := by
  simp only [asciiField, List.getElem?_cons_succ, List.getElem?_map, List.getElem?_take_of_lt hi, and_sevenBitMask]

end Sys2Proof

namespace Sys2Proof.Machine

/-! ## What the operations leave -/

theorem exec_enc14 (s : State) (v : BitVec 16) :
    exec (.enc14 v) s = .next { s with
      out := s.out ++ (if 16383 < v.toNat then [.status .rangeClamped] else [])
        ++ [.result (.pair (enc14 v.toNat).1 (enc14 v.toNat).2)] } := by
  change (if 16383 < v.toNat then _ else _) = _
  split
  · rfl
  · rw [List.append_nil]; rfl

theorem exec_dec14 (s : State) (msb lsb : Septet) :
    exec (.dec14 msb lsb) s = .next { s with out := s.out ++ [.result (.value (dec14 msb lsb))] } := rfl

theorem exec_enccolor24 (s : State) (r g b : Byte) :
    exec (.enccolor24 r g b) s = .next { s with out := s.out ++ [.result (.bytes (encColor24 ⟨r, g, b⟩))] } := rfl

theorem exec_encascii (s : State) (text : Bytes) (maxLen : Byte) :
    exec (.encascii text maxLen) s = .next { s with out := s.out ++ [.result (.bytes (asciiField text maxLen))] } :=
  rfl

/-- ENC14 of a decoded pair is inside the range: the pair comes back and nothing is reported. -/
theorem exec_enc14_dec14 (s : State) (msb lsb : Septet) :
    exec (.enc14 ((dec14 msb lsb).setWidth 16)) s = .next { s with out := s.out ++ [.result (.pair msb lsb)] } := by
  have hwiden : ((dec14 msb lsb).setWidth 16).toNat = (dec14 msb lsb).toNat := by
    rw [BitVec.toNat_setWidth]; omega
  have hrange : ¬ 16383 < (dec14 msb lsb).toNat := by omega
  rw [exec_enc14, hwiden, if_neg hrange, enc14_dec14_toNat, List.append_nil]

/-! ## The statements -/

/-- Settles O3: the value's pair weighs the clamped value, and a decoded pair needs no clamp. -/
theorem pairRoundTrips : Obligations.PairRoundTrips := by
  refine ⟨fun s v => ?fromValue, fun s msb lsb => ?fromPair⟩
  case fromValue =>
    refine ⟨(enc14 v.toNat).1, (enc14 v.toNat).2, _, exec_enc14 s v, ?_⟩
    rw [exec_dec14, dec14_enc14, Nat.min_def]
  case fromPair => exact ⟨dec14 msb lsb, exec_dec14 s msb lsb, exec_enc14_dec14 s msb lsb⟩

/-- Settles O1: the model's shift and mask are quotient and remainder by 128. -/
theorem enc14GivesClampedPair : Obligations.Enc14GivesClampedPair := by
  intro s v
  rw [exec_enc14, enc14_eq]

/-- Settles O2: the model's shift and bitwise or are the weighted sum, since the two terms share no bit. -/
theorem dec14GivesWeightedSum : Obligations.Dec14GivesWeightedSum := by
  intro s msb lsb
  rw [exec_dec14, dec14_eq]

/-- Settles O4: each channel's two bytes in turn. -/
theorem encColorGivesSixBytes : Obligations.EncColorGivesSixBytes := by
  intro s r g b
  rw [exec_enccolor24, encColor24, enc14Bytes_of_byte, enc14Bytes_of_byte, enc14Bytes_of_byte]; rfl

/-- Settles O5: the field's length, its length byte and its text bytes. -/
theorem encAsciiGivesLengthThenMaskedText : Obligations.EncAsciiGivesLengthThenMaskedText :=
  fun s text maxLen => ⟨asciiField text maxLen, exec_encascii s text maxLen, asciiField_length text maxLen,
    asciiField_getElem?_zero text maxLen, fun _ hi => asciiField_getElem?_succ hi⟩

end Sys2Proof.Machine
end

section
/-! PROOF. The frame codec (41_framecodec): the checksum as an algebra of exclusive-or, what FENC and FDEC answer in
each case, and the statements from both. -/

namespace Sys2Proof

/-! ## The checksum -/

theorem foldl_xor_eq (a : Byte) (p : Bytes) : p.foldl (fun acc b => acc ^^^ b) a = a ^^^ foldXor p := by
  induction p generalizing a with
  | nil => simp
  | cons b rest ih => rw [List.foldl_cons, ih, foldXor_cons, xor_assoc]

/-- The checksum of 30_encoding R86, folded from the left as 41_framecodec R120 is stated. -/
theorem checksum_eq_foldl (cmd sq : Byte) (p : Bytes) :
    checksum cmd sq p = p.foldl (fun acc b => acc ^^^ b) (cmd ^^^ sq) &&& 0x7F := by
  rw [foldl_xor_eq, checksum]

theorem foldXor_set {p : Bytes} {i : Nat} {old : Byte} (new : Byte) (hold : p[i]? = some old) :
    foldXor (p.set i new) = foldXor p ^^^ (old ^^^ new) := by
  induction p generalizing i with
  | nil => simp at hold
  | cons b rest ih =>
    cases i with
    | zero =>
      obtain rfl : b = old := by simpa using hold
      rw [List.set_cons_zero, foldXor_cons, foldXor_cons, xor_comm b (foldXor rest), xor_assoc, xor_cancel_left,
        BitVec.xor_comm]
    | succ i =>
      rw [List.set_cons_succ, foldXor_cons, foldXor_cons, ih (by simpa using hold), xor_assoc]

/-- The mask takes nothing away from the exclusive-or of seven-bit bytes. -/
theorem xor_and_sevenBitMask {a b : Byte} (ha : a.toNat ≤ 127) (hb : b.toNat ≤ 127) :
    (a ^^^ b) &&& 0x7F = a ^^^ b := by
  have hxor : (a ^^^ b).toNat < 2 ^ 7 := by
    rw [BitVec.toNat_xor]
    exact Nat.xor_lt_two_pow (Nat.lt_succ_of_le ha) (Nat.lt_succ_of_le hb)
  rw [and_sevenBitMask, Nat.mod_eq_of_lt (b := 128) hxor, BitVec.ofNat_toNat, BitVec.setWidth_eq]

/-- Replacing a seven-bit payload byte by another changes the checksum by the exclusive-or of the two. -/
theorem checksum_set (cmd sq : Byte) {p : Bytes} {i : Nat} {old new : Byte} (hget : p[i]? = some old)
    (hold : old.toNat ≤ 127) (hnew : new.toNat ≤ 127) :
    checksum cmd sq (p.set i new) = checksum cmd sq p ^^^ (old ^^^ new) := by
  have hdistrib (a b m : Byte) : (a ^^^ b) &&& m = (a &&& m) ^^^ (b &&& m) := by
    ext k; simp [Bool.and_xor_distrib_right]
  rw [checksum, checksum, foldXor_set new hget, ← xor_assoc, hdistrib, xor_and_sevenBitMask hold hnew]

theorem checksum_set_ne (cmd sq : Byte) {p : Bytes} {i : Nat} {old new : Byte} (hget : p[i]? = some old)
    (hold : old.toNat ≤ 127) (hnew : new.toNat ≤ 127) (hne : new ≠ old) :
    checksum cmd sq (p.set i new) ≠ checksum cmd sq p := by
  rw [checksum_set cmd sq hget hold hnew, Ne, xor_left_eq_self_iff, xor_eq_zero_iff]
  exact hne.symm

/-! ## The frame -/

/-- A value the clamp leaves alone, as its two wire bytes (20_memory R57). -/
theorem enc14Bytes_of_le {v : Nat} (hv : v ≤ 16383) :
    enc14Bytes v = [BitVec.ofNat 8 (v / 128), BitVec.ofNat 8 (v % 128)] := by
  obtain ⟨hmsb, hlsb⟩ := enc14_toNat v
  rw [Nat.min_eq_left hv] at hmsb hlsb
  rw [← hmsb, ← hlsb, BitVec.ofNat_toNat, BitVec.ofNat_toNat]; rfl

/-- The frame byte by byte, as 41_framecodec R120 writes it. -/
theorem frameBytes_eq (cmd : Byte) (seq : Septet) {payload : Bytes} (hlen : payload.length ≤ 16383) :
    frameBytes cmd seq payload
      = [0xF0, 0x7F, 0x00, 0x7F, cmd, seq.setWidth 8,
          BitVec.ofNat 8 (payload.length / 128), BitVec.ofNat 8 (payload.length % 128)]
        ++ payload
        ++ [payload.foldl (fun acc b => acc ^^^ b) (cmd ^^^ seq.setWidth 8) &&& 0x7F, 0xF7] := by
  rw [frameBytes, enc14Bytes_of_le hlen, checksum_eq_foldl]; rfl

/-- The payload stands from offset 8 on. -/
theorem framed_set {payload : Bytes} {i : Nat} (hi : i < payload.length) (cmd sq lm ll ck new : Byte) :
    (framed cmd sq lm ll payload ck).set (8 + i) new = framed cmd sq lm ll (payload.set i new) ck := by
  have hsplit (p : Bytes) : framed cmd sq lm ll p ck = (frameHeader ++ [cmd, sq, lm, ll]) ++ (p ++ [ck, frameFooter]) :=
    List.append_assoc _ _ _
  have hoffset : 8 + i - (frameHeader ++ [cmd, sq, lm, ll]).length = i := Nat.add_sub_cancel_left 8 i
  rw [hsplit, hsplit, List.set_append_right _ _ (Nat.le_add_right 8 i), hoffset, List.set_append_left _ _ hi]

/-- Length, payload and checksum byte of a framed buffer, read at their offsets (41_framecodec R121). -/
theorem framed_fields (cmd sq lm ll : Byte) (payload : Bytes) (ck : Byte) :
    (framed cmd sq lm ll payload ck).length - 10 = payload.length
      ∧ ((framed cmd sq lm ll payload ck).drop 8).take payload.length = payload
      ∧ byteAt (framed cmd sq lm ll payload ck) (8 + payload.length) = ck := by
  refine ⟨?_, List.take_left, ?_⟩
  · rw [framed_length, Nat.add_sub_cancel_left]
  · rw [byteAt_framed]; exact (byteAt_append_pair payload ck frameFooter).1

/-- A frame with one payload byte replaced keeps the checksum it had, which is no longer that of its payload. -/
theorem fdec_frameBytes_set {cmd : Byte} {seq : Septet} {payload : Bytes} {i : Nat} {old new : Byte}
    (hp : payloadOk payload = true) (hget : payload[i]? = some old) (hne : new ≠ old) (hnew : new.toNat ≤ 127) :
    fdec ((frameBytes cmd seq payload).set (8 + i) new) = .error .badChecksum := by
  obtain ⟨hlen, hseven⟩ := (payloadOk_iff payload).1 hp
  have hi : i < payload.length := (List.getElem?_eq_some_iff.1 hget).1
  have hset : ∀ b ∈ payload.set i new, b.toNat ≤ 127 := fun b hb =>
    (List.mem_or_eq_of_mem_set hb).elim (hseven b) (fun hb => hb ▸ hnew)
  have hbody : allSevenBit (payload.set i new ++ [checksum cmd (septetByte seq) payload]) = true := by
    simpa [allSevenBit_iff, checksum_le] using hset
  have hsum := checksum_set_ne cmd (septetByte seq) hget (hseven old (List.mem_of_getElem? hget)) hnew hne
  have hfield := dec14_enc14_toNat hlen
  rw [dec14_toNat] at hfield
  rw [frameBytes_eq_framed, framed_set hi, fdec_framed_septets, List.length_set, hfield, if_neg (not_not.2 rfl), hbody,
    if_neg Bool.noConfusion, if_pos hsum.symm]

/-! ## Buffers whose seven-bit positions hold seven-bit bytes -/

/-- The fields of a framed buffer but the command are at offsets 5 to N - 2. -/
theorem exists_getElem?_framed {cmd sq lm ll ck b : Byte} {payload : Bytes}
    (hb : b ∈ [sq, lm, ll] ++ (payload ++ [ck])) :
    ∃ i, (framed cmd sq lm ll payload ck)[i]? = some b ∧ 5 ≤ i ∧ i + 2 ≤ (framed cmd sq lm ll payload ck).length := by
  obtain ⟨k, hk⟩ := List.mem_iff_getElem?.1 hb
  have hlt : k < ([sq, lm, ll] ++ (payload ++ [ck])).length := (List.getElem?_eq_some_iff.1 hk).1
  have hsplit : framed cmd sq lm ll payload ck
      = frameHeader ++ [cmd] ++ (([sq, lm, ll] ++ (payload ++ [ck])) ++ [frameFooter]) := by simp [framed]
  refine ⟨5 + k, ?_, by omega, ?_⟩
  · rw [hsplit, List.getElem?_append_right (Nat.le_add_right 5 k), ← hk]
    exact (congrArg _ (Nat.add_sub_cancel_left 5 k)).trans (List.getElem?_append_left hlt)
  · rw [framed_length]
    simp only [List.length_append, List.length_cons, List.length_nil] at hlt
    omega

/-- FDEC on a framed buffer that R121's precondition admits: the length test, then the checksum test. -/
theorem fdec_framed_of_sevenBit {cmd sq lm ll ck : Byte} {payload : Bytes}
    (hfields : ∀ b ∈ [sq, lm, ll] ++ (payload ++ [ck]), b.toNat ≤ 127) :
    fdec (framed cmd sq lm ll payload ck)
      = if payload.length ≠ lm.toNat * 128 + ll.toNat then .error .lengthMismatch
        else if ck ≠ checksum cmd sq payload then .error .badChecksum
        else .frame ⟨cmd, sq, payload.length, payload, ck⟩ := by
  have hsq : septetByte (sq.setWidth 7) = sq := septetByte_setWidth (hfields sq (by simp))
  have hlm : septetByte (lm.setWidth 7) = lm := septetByte_setWidth (hfields lm (by simp))
  have hll : septetByte (ll.setWidth 7) = ll := septetByte_setWidth (hfields ll (by simp))
  have hbody : allSevenBit (payload ++ [ck]) = true :=
    (allSevenBit_iff _).2 fun b hb => hfields b (List.mem_append_right _ hb)
  have h := fdec_framed_septets cmd (sq.setWidth 7) (lm.setWidth 7) (ll.setWidth 7) payload ck
  simpa only [← septetByte_toNat (lm.setWidth 7), ← septetByte_toNat (ll.setWidth 7), hsq, hlm, hll, hbody,
    Bool.true_eq_false, if_false] using h

end Sys2Proof

namespace Sys2Proof.Machine

/-! ## FENC -/

theorem exec_fenc_of_not_sevenBit (s : State) (cmd : Byte) (seq : Septet) {payload : Bytes}
    (h : allSevenBit payload = false) : exec (.fenc cmd seq payload) s = .refused .payloadNotSevenBit :=
  if_pos (by rw [h]; rfl)

theorem exec_fenc_of_oversize (s : State) (cmd : Byte) (seq : Septet) {payload : Bytes}
    (h : allSevenBit payload = true) (hlen : 16383 < payload.length) :
    exec (.fenc cmd seq payload) s = .next { s with out := s.out ++ [.status .oversize] } :=
  (if_neg (by rw [h]; decide)).trans (if_pos hlen)

theorem exec_fenc_of_payloadOk (s : State) (cmd : Byte) (seq : Septet) {payload : Bytes}
    (h : payloadOk payload = true) :
    exec (.fenc cmd seq payload) s
      = .next { s with out := s.out ++ [.result (.bytes (frameBytes cmd seq payload))] } := by
  obtain ⟨hlen, hseven⟩ := (payloadOk_iff payload).1 h
  rw [← allSevenBit_iff] at hseven
  exact (if_neg (by rw [hseven]; decide)).trans (if_neg (Nat.not_lt.2 hlen))

/-! ## FDEC -/

theorem exec_fdec_of_frame {buf : Bytes} {f : Frame} (s : State) (h : fdec buf = .frame f) :
    exec (.fdec buf) s = .next { s with out := s.out ++ [.result (.frame f)] } := by
  simp only [exec, execFdec, h]; rfl

/-- FDEC on a framed buffer that R121's precondition admits, with its fields read at their offsets. -/
theorem exec_fdec_framed (s : State) {cmd sq lm ll sum : Byte} {p : Bytes}
    (hfields : ∀ b ∈ [sq, lm, ll] ++ (p ++ [sum]), b.toNat ≤ 127) :
    let buf := framed cmd sq lm ll p sum
    let len := lm.toNat * 128 + ll.toNat
    let payload := (buf.drop 8).take len
    let ck := payload.foldl (fun acc b => acc ^^^ b) (cmd ^^^ sq) &&& 0x7F
    exec (.fdec buf) s = .next { s with out := s.out ++ [.result (
      if buf.length - 10 ≠ len then .error .lengthMismatch
      else if byteAt buf (8 + len) ≠ ck then .error .badChecksum
      else .frame ⟨cmd, sq, len, payload, ck⟩)] } := by
  intro buf len payload ck
  have hfdec := fdec_framed_of_sevenBit (cmd := cmd) hfields
  obtain ⟨hsize, htake, hsum⟩ := framed_fields cmd sq lm ll p sum
  rw [hsize]
  by_cases hlength : p.length = len
  case neg =>
    rw [if_pos hlength] at hfdec ⊢
    exact exec_fdec_of_error s hfdec
  rw [hlength] at htake hsum
  have hck : ck = checksum cmd sq p := by rw [checksum_eq_foldl, ← htake]
  rw [if_neg (not_not.2 hlength)] at hfdec ⊢
  rw [hck, hsum, show payload = p from htake, ← hlength]
  by_cases hgood : sum = checksum cmd sq p
  · rw [if_neg (not_not.2 hgood)] at hfdec ⊢
    rw [← hgood]
    exact exec_fdec_of_frame s hfdec
  · rw [if_pos hgood] at hfdec ⊢
    exact exec_fdec_of_error s hfdec

/-- FDEC, when it answers, leaves its result and nothing else (41_framecodec R122). -/
theorem exec_fdec_eq_next {buf : Bytes} {s t : State} (h : exec (.fdec buf) s = .next t) :
    ∃ v, t = s.emit (.result v) := by
  cases hf : fdec buf with
  | frame f => rw [exec_fdec_of_frame s hf] at h; cases h; exact ⟨_, rfl⟩
  | error e => rw [exec_fdec_of_error s hf] at h; cases h; exact ⟨_, rfl⟩
  | notSevenBit => rw [(exec_of_notSevenBit s hf).1] at h; cases h

/-! ## The statements -/

/-- Settles O9: a payload that fits is framed, and FDEC finds the operands in the frame. -/
theorem fdecOfFencIsTheFrame : Obligations.FdecOfFencIsTheFrame := by
  refine ⟨fun s cmd seq payload hlen hseven => ?_, fun s t buf h => exec_fdec_eq_next h⟩
  have hp : payloadOk payload = true := (payloadOk_iff payload).2 ⟨hlen, hseven⟩
  exact ⟨frameBytes cmd seq payload, checksum cmd (septetByte seq) payload, exec_fenc_of_payloadOk s cmd seq hp,
    checksum_eq_foldl _ _ _, exec_fdec_of_frame s (fdec_frameBytes hp)⟩

/-- Settles O6: the three cases of FENC exclude each other, and the frame is written out byte by byte. -/
theorem fencFramesOrRejects : Obligations.FencFramesOrRejects := by
  intro s cmd seq payload
  refine ⟨fun hbyte => ?highByte, fun hseven hlen => ?oversize, fun hseven hlen => ?framed⟩
  case highByte => exact exec_fenc_of_not_sevenBit s cmd seq ((allSevenBit_eq_false_iff _).2 hbyte)
  case oversize => exact exec_fenc_of_oversize s cmd seq ((allSevenBit_iff _).2 hseven) hlen
  case framed =>
    rw [exec_fenc_of_payloadOk s cmd seq ((payloadOk_iff payload).2 ⟨hlen, hseven⟩), frameBytes_eq cmd seq hlen]

/-- Settles O7: the three checks on the buffer's ends; past them the buffer is framed, and the precondition makes the
checks on its fields the length test and the checksum test. -/
theorem fdecChecksInOrder : Obligations.FdecChecksInOrder := by
  intro s buf hseven at' len payload ck answer
  by_cases hshort : buf.length < 10
  · rw [exec_fdec_of_error s (fdec_of_short hshort), show answer = _ from if_pos hshort]
  have hlen : 10 ≤ buf.length := Nat.le_of_not_lt hshort
  by_cases hheader : buf.take 4 = frameHeader
  case neg =>
    rw [exec_fdec_of_error s (fdec_of_badHeader hlen hheader),
      show answer = _ from (if_neg hshort).trans (if_pos hheader)]
  by_cases hfooter : byteAt buf (buf.length - 1) = frameFooter
  case neg =>
    rw [exec_fdec_of_error s (fdec_of_badFooter hlen hheader hfooter),
      show answer = _ from (if_neg hshort).trans ((if_neg (not_not.2 hheader)).trans (if_pos hfooter))]
  have hends : answer = _ :=
    (if_neg hshort).trans ((if_neg (not_not.2 hheader)).trans (if_neg (not_not.2 hfooter)))
  rw [hends]
  obtain ⟨cmd, sq, lm, ll, p, sum, rfl⟩ := exists_eq_framed hlen hheader hfooter
  have hfields : ∀ b ∈ [sq, lm, ll] ++ (p ++ [sum]), b.toNat ≤ 127 := by
    intro b hb
    obtain ⟨i, hi, h5, hend⟩ := exists_getElem?_framed (cmd := cmd) hb
    exact hseven i b hi h5 (.inr hend)
  exact exec_fdec_framed s hfields

/-- Settles O10: the changed byte changes the checksum of the payload, and not the one the frame carries. -/
theorem onePayloadByteChangedIsBadChecksum : Obligations.OnePayloadByteChangedIsBadChecksum :=
  fun s _ _ payload _ _ _ hlen hseven hget hne hnew =>
    exec_fdec_of_error s (fdec_frameBytes_set ((payloadOk_iff payload).2 ⟨hlen, hseven⟩) hget hne hnew)

end Sys2Proof.Machine
end

section
/-! PROOF. Every frame an event transmits carries the next sequence number (41_framecodec R125): the frames of two
stretches of the trace join, SEND and EMITALL transmit in sequence, and what the other operations append is no frame. -/

namespace Sys2Proof.Machine

/-! ## Frames with consecutive numbers -/

theorem framesFrom_append (seq : Septet) (l m : List Slot) :
    framesFrom seq (l ++ m) = framesFrom seq l ++ framesFrom (seq + BitVec.ofNat 7 l.length) m := by
  induction l generalizing seq with
  | nil => simp [framesFrom]
  | cons x rest ih =>
    have hseq : seq + 1 + BitVec.ofNat 7 rest.length = seq + BitVec.ofNat 7 (rest.length + 1) := by
      rw [Nat.add_comm rest.length 1, BitVec.ofNat_add]; ac_rfl
    rw [List.cons_append, framesFrom, framesFrom, ih, hseq, List.length_cons, List.cons_append]

theorem filter_isTx_framesFrom (seq : Septet) (l : List Slot) :
    (framesFrom seq l).filter Output.isTx = framesFrom seq l := by
  induction l generalizing seq with
  | nil => rfl
  | cons x rest ih => rw [framesFrom, List.filter_cons_of_pos rfl, ih]

/-! ## Transmitting in sequence -/

/-- From `s` to `t` the trace has grown, its new frames carry the numbers from the counter of `s` on, and the counter
has advanced by how many they are (41_framecodec R125, 10_state R23). -/
def SendsInSequence (s t : State) : Prop :=
  ∃ (new : List Output) (frames : List Slot), t.out = s.out ++ new
    ∧ new.filter Output.isTx = framesFrom s.txSeq frames ∧ t.txSeq = s.txSeq + BitVec.ofNat 7 frames.length

namespace SendsInSequence

/-- No frame goes out and the counter stays. -/
theorem of_noTx {s t : State} {new : List Output} (hout : t.out = s.out ++ new) (hnew : ∀ o ∈ new, o.isTx = false)
    (hseq : t.txSeq = s.txSeq) : SendsInSequence s t := by
  refine ⟨new, [], hout, ?_, by simpa using hseq⟩
  exact List.filter_eq_nil_iff.2 (by simpa using hnew)

theorem refl (s : State) : SendsInSequence s s := of_noTx (List.append_nil _).symm (by simp) rfl

theorem trans {s t u : State} (hst : SendsInSequence s t) (htu : SendsInSequence t u) : SendsInSequence s u := by
  obtain ⟨new, frames, hout, htx, hseq⟩ := hst
  obtain ⟨new', frames', hout', htx', hseq'⟩ := htu
  refine ⟨new ++ new', frames ++ frames', ?_, ?_, ?_⟩
  · rw [hout', hout, List.append_assoc]
  · rw [List.filter_append, htx, htx', hseq, framesFrom_append]
  · rw [hseq', hseq, List.length_append, BitVec.ofNat_add, BitVec.add_assoc]

theorem emit (s : State) {o : Output} (ho : o.isTx = false) : SendsInSequence s (s.emit o) :=
  of_noTx rfl (by simpa using ho) rfl

theorem send (cmd : Byte) (payload : Bytes) (s : State) : SendsInSequence s (send cmd payload s) :=
  ⟨[.tx (frameBytes cmd s.txSeq payload)], [⟨cmd, singletonKey, payload, 0⟩], rfl, rfl, rfl⟩

theorem emitAll (s : State) : SendsInSequence s (emitAll s) := by
  refine ⟨framesFrom s.txSeq (emitOrder s.slots), emitOrder s.slots, ?_, filter_isTx_framesFrom _ _, ?_⟩
  · rw [emitAll_eq]
  · rw [emitAll_eq, emitOrder_length]

end SendsInSequence

/-! ## The shared operations -/

theorem raise_sendsInSequence {c : StatusCode} {s t : State} (h : raise c s = .next t) : SendsInSequence s t :=
  (raise_eq_next c s t).1 h ▸ .emit s rfl

theorem giveResult_sendsInSequence {v : ResultValue} {s t : State} (h : giveResult v s = .next t) :
    SendsInSequence s t :=
  (giveResult_eq_next v s t).1 h ▸ .emit s rfl

theorem reportThenResult_sendsInSequence {p : Prop} [Decidable p] {v : ResultValue} {c : StatusCode} {s t : State}
    (h : (if p then giveResult v (s.emit (.status c)) else giveResult v s) = .next t) : SendsInSequence s t := by
  split at h
  · exact (SendsInSequence.emit s rfl).trans (giveResult_sendsInSequence h)
  · exact giveResult_sendsInSequence h

theorem queueSlot_sendsInSequence {cmd : Byte} {key : Word14} {payload : Bytes} {prio : Byte} {s t : State}
    (h : queueSlot cmd key payload prio s = .next t) : SendsInSequence s t := by
  obtain ⟨-, ⟨-, rfl⟩ | ⟨-, l, -, rfl⟩⟩ := queueSlot_eq_next h
  · exact .emit s rfl
  · split
    · exact .emit (s.putSlots l) rfl
    · exact .refl s

theorem reloadPad_sendsInSequence (s : State) (p : Nat) : SendsInSequence s (reloadPad s p) := by
  unfold reloadPad
  split
  · exact .emit s rfl
  · exact .refl s

theorem reload_sendsInSequence (s : State) : SendsInSequence s (reload s) :=
  List.foldlRecOn (motive := SendsInSequence s) _ _ (.refl s)
    fun t ht p _ => ht.trans (reloadPad_sendsInSequence t p)

theorem windowMoved_sendsInSequence (w : RingWindow) (s : State) : SendsInSequence s (windowMoved w s) := by
  rw [windowMoved, resubscribe_eq]
  refine (SendsInSequence.emit (s.putWin w) (o := .windowChanged w) rfl).trans
    (.of_noTx (List.append_assoc _ _ _) (fun o ho => ?_) rfl)
  rcases List.mem_append.1 ho with ho | ho <;> (obtain ⟨e, -, rfl⟩ := List.mem_map.1 ho; rfl)

theorem winChange_sendsInSequence {w : RingWindow} {s t : State} (h : winChange w s = .next t) :
    SendsInSequence s t := by
  obtain ⟨-, rfl⟩ | ⟨-, hq⟩ := winChange_eq_next h
  · exact .refl _
  · exact (windowMoved_sendsInSequence w s).trans ((reload_sendsInSequence _).trans (queueSlot_sendsInSequence hq))

/-- The reply, where there is one, then the announcement of the dump (43_handshake R152). -/
theorem dumpStart_sendsInSequence (reply : Bool) (s : State) : SendsInSequence s (dumpStart reply s) := by
  cases reply with
  | false => exact .of_noTx (new := [.dumpReq]) (by simp [dumpStart]) (by simp [Output.isTx]) rfl
  | true =>
    exact (SendsInSequence.send s.cfg.cmdHandshakeReply s.cfg.hsReplyPayload s).trans
      (.of_noTx (new := [.dumpReq]) rfl (by simp [Output.isTx]) rfl)

theorem enterConnected_sendsInSequence {reply : Bool} {s t : State} (h : enterConnected reply s = .next t) :
    SendsInSequence s t := by
  obtain ⟨s3, hq, rfl⟩ := enterConnected_eq_next h
  exact (dumpStart_sendsInSequence reply s).trans ((queueSlot_sendsInSequence hq).trans (.emitAll s3))

theorem receive_sendsInSequence {buf : Bytes} {s t : State} (h : receive buf s = .next t) : SendsInSequence s t := by
  obtain ⟨e, -, rfl⟩ | ⟨f, -, hr⟩ := receive_eq_next h
  · exact .emit s rfl
  · obtain ⟨-, rfl⟩ | ⟨-, -, rfl⟩ | ⟨s1, hc, rfl⟩ := route_eq_next hr
    · exact .emit s rfl
    · exact .emit s rfl
    · obtain ⟨-, rfl⟩ | ⟨-, he⟩ := connectOn_eq_next hc
      · exact .emit _ rfl
      · exact (enterConnected_sendsInSequence he).trans (.emit s1 rfl)

/-! ## The instructions -/

/-- An event that does something or finds nothing to do. -/
theorem ite_next_sendsInSequence {p : Prop} [Decidable p] {s t u : State} (hu : SendsInSequence s u)
    (h : (if p then .next u else .next s : Res) = .next t) : SendsInSequence s t := by
  split at h <;> cases h
  · exact hu
  · exact .refl s

theorem execFenc_sendsInSequence {cmd : Byte} {seq : Septet} {payload : Bytes} {s t : State}
    (h : execFenc cmd seq payload s = .next t) : SendsInSequence s t := by
  unfold execFenc at h
  split at h
  · cases h
  · split at h
    · exact raise_sendsInSequence h
    · exact giveResult_sendsInSequence h

theorem execToring_sendsInSequence {track scene : Word14} {s t : State} (h : execToring track scene s = .next t) :
    SendsInSequence s t := by
  unfold execToring at h
  split at h <;> exact giveResult_sendsInSequence h

theorem execCellupdate_sendsInSequence {track scene : Word14} {r g b : Byte} {occ : BitVec 1} {s t : State}
    (h : execCellupdate track scene r g b occ s = .next t) : SendsInSequence s t := by
  unfold execCellupdate at h
  split at h
  · cases h; exact .refl s
  · split at h
    · exact queueSlot_sendsInSequence (s := s.putCell _ _) h
    · cases h; exact .refl s

/-- `Effect.outputOnly` does not say what is appended, so the split is over the instructions here. LINKINIT alone sets
the counter (43_handshake R153). -/
theorem exec_sendsInSequence {i : Instr} {s t : State} (hi : i ≠ .linkinit) (h : exec i s = .next t) :
    SendsInSequence s t := by
  cases i with
  | enc14 | toabs => exact reportThenResult_sendsInSequence h
  | dec14 | enccolor24 | encascii | lookup | render | blend => exact giveResult_sendsInSequence h
  | fenc => exact execFenc_sendsInSequence h
  | fdec =>
    obtain ⟨v, rfl⟩ := exec_fdec_eq_next h
    exact .emit s rfl
  | toring => exact execToring_sendsInSequence h
  | rxframe | cmdHandshake | cmdHandshakeReply | cmdDisconnect | cmdGrid | cmdVolume => exact receive_sendsInSequence h
  | tickretry => exact ite_next_sendsInSequence (.send _ _ s) h
  | teardown =>
    exact ite_next_sendsInSequence (.send _ _ ((s.putConn .disconnected).putRetryArmed s.cfg.rearmOnTeardown)) h
  | linkinit => exact absurd rfl hi
  | queue => exact queueSlot_sendsInSequence h
  | flush now => exact ite_next_sendsInSequence (.emitAll (s.putLastFlush now)) h
  | forceflush => cases h; exact .emitAll s
  | navleft | navright | navup | navdown | follow | settotals | setoverview => exact winChange_sendsInSequence h
  | cellupdate => exact execCellupdate_sendsInSequence h

/-- Settles O54: LINKINIT appends nothing and resets the counter, every other instruction transmits in sequence. -/
theorem framesCarryConsecutiveSequenceNumbers : Obligations.FramesCarryConsecutiveSequenceNumbers := by
  intro s t i h
  by_cases hi : i = .linkinit
  · subst hi
    cases h
    exact ⟨[], [], (List.append_nil _).symm, rfl, rfl, fun _ => rfl⟩
  · obtain ⟨new, frames, hout, htx, hseq⟩ := exec_sendsInSequence hi h
    exact ⟨new, frames, hout, htx, by rw [if_neg hi, hseq], fun hlink => absurd hlink hi⟩

end Sys2Proof.Machine
end

section
/-! PROOF. The registry and the router. LOOKUP finds the only entry of a byte; receiving a frame FENC makes is routing
it, as RXFRAME and as a wire command alike; and the router's two checks are said once, each with its drop. -/

namespace Sys2Proof

/-! ## The registry -/

/-- In a registry that is a partial function, every entry is the one its byte gives (42_registry_router R130, R132). -/
theorem registryAt_of_mem {reg : List Descriptor} (hreg : (reg.map (·.id)).Nodup) {d : Descriptor} (hd : d ∈ reg) :
    registryAt reg d.id = some d := by
  obtain ⟨d', hfound⟩ : ∃ d', registryAt reg d.id = some d' :=
    Option.isSome_iff_exists.1 (List.find?_isSome.2 ⟨d, hd, beq_self_eq_true d.id⟩)
  have hsame : d' = d := List.inj_on_of_nodup_map hreg (List.mem_of_find?_eq_some hfound) hd (registryAt_id hfound)
  rw [hfound, hsame]

theorem registryAt_eq_none_iff (reg : List Descriptor) (id : Byte) :
    registryAt reg id = none ↔ ∀ d ∈ reg, d.id ≠ id := by
  simp [registryAt]

/-! ## The router's checks -/

theorem shapeMismatch_iff (d : Option Descriptor) (len : Nat) :
    shapeMismatch d len = true ↔ ∃ id dir n, d = some ⟨id, dir, .fixed n⟩ ∧ len ≠ n := by
  unfold shapeMismatch
  split
  · simp
  · rename_i hne
    simp only [Bool.false_eq_true, false_iff]
    rintro ⟨id, dir, n, hd, -⟩
    exact hne id dir n hd

theorem wrongWay_iff (d : Option Descriptor) : wrongWay d = true ↔ ∃ id size, d = some ⟨id, .hostToDevice, size⟩ := by
  unfold wrongWay
  split
  · simp
  · rename_i hne
    simp only [Bool.false_eq_true, false_iff]
    rintro ⟨id, size, hd⟩
    exact hne id size hd

end Sys2Proof

namespace Sys2Proof.Machine

theorem exec_lookup (id : Byte) (s : State) :
    exec (.lookup id) s = .next (s.emit (.result (.descriptor (registryAt s.cfg.registry id)))) := rfl

/-- Settles O11: an entry is the one its byte gives, and a byte without an entry gives none. -/
theorem lookupGivesTheEntry : Obligations.LookupGivesTheEntry := by
  intro s id hreg
  refine ⟨fun d hd hid => ?entry, fun habsent => ?absent⟩
  case entry =>
    subst hid
    rw [exec_lookup, registryAt_of_mem hreg hd]; rfl
  case absent =>
    rw [exec_lookup, (registryAt_eq_none_iff _ id).2 habsent]; rfl

/-! ## Receiving a frame -/

theorem receive_of_error {buf : Bytes} {e : FrameError} (s : State) (h : fdec buf = .error e) :
    receive buf s = raise e.status s := by
  simp only [receive, h]

theorem receive_frameBytes (cmd : Byte) (seq : Septet) {payload : Bytes} (s : State) (hp : payloadOk payload = true) :
    receive (frameBytes cmd seq payload) s = route (fencFrame cmd seq payload) s := by
  simp only [receive, fdec_frameBytes hp]

/-- What the router makes of a frame is what its reception answers, whether RXFRAME or a wire command receives it
(log 10). -/
theorem receptionAnswers_of_route {cmd : Byte} {seq : Septet} {payload : Bytes} {s : State} {r : Res}
    (hp : payloadOk payload = true) (h : route (fencFrame cmd seq payload) s = r) :
    ReceptionAnswers cmd seq payload s r := by
  have hreceive : receive (frameBytes cmd seq payload) s = r := (receive_frameBytes cmd seq s hp).trans h
  refine ⟨hreceive, ?_, ?_, ?_, ?_, ?_⟩ <;> (rintro rfl; exact hreceive)

/-- FDEC answers with an error only where the buffer decodes to that error. -/
theorem fdec_eq_error_of_exec {buf : Bytes} {e : FrameError} {s : State}
    (h : exec (.fdec buf) s = .next (s.emit (.result (.error e)))) : fdec buf = .error e := by
  cases hf : fdec buf with
  | frame f => rw [exec_fdec_of_frame s hf] at h; simp [State.emit] at h
  | error e' =>
    rw [exec_fdec_of_error s hf] at h
    simpa [State.emit] using h
  | notSevenBit => rw [(exec_of_notSevenBit s hf).1] at h; cases h

/-! ## Routing -/

theorem route_of_shapeMismatch {f : Frame} {s : State}
    (h : shapeMismatch (registryAt s.cfg.registry f.command) f.payloadLength = true) :
    route f s = raise .payloadShapeError s :=
  if_pos h

theorem route_of_wrongWay {f : Frame} {s : State}
    (hshape : ¬ shapeMismatch (registryAt s.cfg.registry f.command) f.payloadLength = true)
    (hcheck : s.cfg.dirCheck = true) (hway : wrongWay (registryAt s.cfg.registry f.command) = true) :
    route f s = raise .wrongDirection s :=
  (if_neg hshape).trans (if_pos (by rw [hcheck, hway]; rfl))

/-- Settles O12: a frame error is raised by the reception; the router raises for the shape, and past that check for the
direction. -/
theorem rejectedFramesAreDropped : Obligations.RejectedFramesAreDropped := by
  intro s
  refine ⟨fun buf e hfdec => ?frameError, fun cmd seq payload dir n hp hentry hlen => ?shape,
    fun cmd seq payload size hp hentry hfits hcheck => ?direction⟩
  case frameError => exact receive_of_error s (fdec_eq_error_of_exec hfdec)
  case shape =>
    have hshape : shapeMismatch (registryAt s.cfg.registry cmd) payload.length = true :=
      (shapeMismatch_iff _ _).2 ⟨cmd, dir, n, hentry, hlen⟩
    exact receptionAnswers_of_route hp (route_of_shapeMismatch hshape)
  case direction =>
    have hshape : ¬ shapeMismatch (registryAt s.cfg.registry cmd) payload.length = true := by
      rw [shapeMismatch_iff, hentry]
      rintro ⟨_, _, n, hd, hlen⟩
      cases hd
      exact hlen (hfits n rfl)
    have hway : wrongWay (registryAt s.cfg.registry cmd) = true := (wrongWay_iff _).2 ⟨cmd, size, hentry⟩
    exact receptionAnswers_of_route hp (route_of_wrongWay hshape hcheck hway)

end Sys2Proof.Machine
end

section
/-! PROOF. The slot table through QUEUEGRID and EMITALL (44_coalescer R165, R166): the table an upsert leaves is
`Upserted`, the order EMITALL sends in is an `EmissionOrder`, and the two operations are said with these. -/

namespace Sys2Proof.Machine

/-! ## Upserting -/

theorem sameKey_iff_at (x y : Slot) : y.sameKey x = true ↔ y.at x.cmd x.key := by simp [Slot.sameKey, Slot.at]

theorem overwriteSlot_append_cons {x y : Slot} {pre : List Slot} (post : List Slot)
    (hpre : ∀ z ∈ pre, ¬ z.at x.cmd x.key) (hy : y.at x.cmd x.key) :
    overwriteSlot x (pre ++ y :: post) = pre ++ x :: post := by
  induction pre with
  | nil => exact if_pos ((sameKey_iff_at x y).2 hy)
  | cons z rest ih =>
    obtain ⟨hz, hrest⟩ := List.forall_mem_cons.1 hpre
    have hskip : overwriteSlot x (z :: (rest ++ y :: post)) = z :: overwriteSlot x (rest ++ y :: post) :=
      if_neg (mt (sameKey_iff_at x z).1 hz)
    rw [List.cons_append, hskip, ih hrest, List.cons_append]

/-- Where an upsert finds a place, that place is the first slot of the address, or the end if there is none. -/
theorem upserted_of_upsertSlot {n : Nat} {x : Slot} {slots queued : List Slot}
    (h : upsertSlot n x slots = some queued) : Upserted x slots queued := by
  cases hfind : slots.find? (fun y => y.sameKey x) with
  | some y =>
    obtain ⟨hy, pre, post, rfl, hpre⟩ := List.find?_eq_some_iff_append.1 hfind
    have hy' : y.at x.cmd x.key := (sameKey_iff_at x y).1 hy
    have hpre' : ∀ z ∈ pre, ¬ z.at x.cmd x.key := fun z hz hat => by
      simpa [(sameKey_iff_at x z).2 hat] using hpre z hz
    have hany : upsertSlot n x (pre ++ y :: post) = some (overwriteSlot x (pre ++ y :: post)) :=
      if_pos (List.any_eq_true.2 ⟨y, by simp, hy⟩)
    rw [hany, overwriteSlot_append_cons post hpre' hy'] at h
    exact .inl ⟨pre, y, post, rfl, hpre', hy', (Option.some.inj h).symm⟩
  | none =>
    have hnew : ∀ z ∈ slots, ¬ z.at x.cmd x.key := fun z hz hat =>
      List.find?_eq_none.1 hfind z hz ((sameKey_iff_at x z).2 hat)
    have hany : ¬ slots.any (fun y => y.sameKey x) = true := by simpa using List.find?_eq_none.1 hfind
    rw [upsertSlot, if_neg hany] at h
    split at h
    · cases h
    · exact .inr ⟨hnew, (Option.some.inj h).symm⟩

/-! ## The order of emission -/

theorem insertByPrio_perm (x : Slot) (l : List Slot) : (insertByPrio x l).Perm (x :: l) := by
  induction l with
  | nil => exact .refl _
  | cons y rest ih =>
    unfold insertByPrio
    split
    · exact .refl _
    · exact (ih.cons y).trans (.swap x y rest)

theorem insertByPrio_pairwise (x : Slot) {l : List Slot} (hl : l.Pairwise (fun a b => b.prio ≤ a.prio)) :
    (insertByPrio x l).Pairwise (fun a b => b.prio ≤ a.prio) := by
  induction l with
  | nil => exact List.pairwise_singleton _ x
  | cons y rest ih =>
    obtain ⟨hy, hrest⟩ := List.pairwise_cons.1 hl
    unfold insertByPrio
    split
    · rename_i hyx
      exact List.pairwise_cons.2 ⟨List.forall_mem_cons.2 ⟨hyx, fun z hz => (hy z hz).trans hyx⟩, hl⟩
    · rename_i hxy
      refine List.pairwise_cons.2 ⟨fun z hz => ?_, ih hrest⟩
      rcases List.mem_cons.1 ((insertByPrio_perm x rest).mem_iff.1 hz) with rfl | hz
      · exact (Nat.lt_of_not_le hxy).le
      · exact hy z hz

/-- Only slots of a higher tier are passed, so within a tier the new slot stays first. -/
theorem filter_insertByPrio (p : Nat) (x : Slot) (l : List Slot) :
    (insertByPrio x l).filter (fun y => y.prio == p) = (x :: l).filter (fun y => y.prio == p) := by
  induction l with
  | nil => rfl
  | cons y rest ih =>
    unfold insertByPrio
    split
    · rfl
    · rename_i hxy
      have hdiffer : ¬ (x.prio = p ∧ y.prio = p) := fun ⟨hx, hy⟩ => hxy (hy.trans hx.symm).le
      rw [List.filter_cons, ih]
      by_cases hx : x.prio = p
      · have hy : y.prio ≠ p := fun hy => hdiffer ⟨hx, hy⟩
        simp [hx, hy]
      · simp [List.filter_cons, hx]

theorem emitOrder_emissionOrder (l : List Slot) : EmissionOrder l (emitOrder l) := by
  induction l with
  | nil => exact ⟨.refl _, .nil, fun _ => rfl⟩
  | cons x rest ih =>
    obtain ⟨hperm, hsorted, hstable⟩ := ih
    refine ⟨(insertByPrio_perm x _).trans (hperm.cons x), insertByPrio_pairwise x hsorted, fun p => ?_⟩
    rw [emitOrder, filter_insertByPrio, List.filter_cons, List.filter_cons, hstable]

/-! ## QUEUEGRID and EMITALL -/

/-- QUEUEGRID where there is room: the grid's slot is upserted, a clamped tier is reported, nothing else changes. -/
theorem queueGrid_upserts {s : State} (h : s.roomForGrid) :
    ∃ queued, Upserted (gridSlot s) s.slots queued
      ∧ queueGrid s = .next { s with slots := queued, out := s.out ++ tierReport s s.cfg.prioGrid } := by
  obtain ⟨t, ht⟩ := queueGrid_completes h
  obtain ⟨queued, hupsert, rfl⟩ := queueGrid_eq_next ht
  refine ⟨queued, upserted_of_upsertSlot hupsert, ht.trans ?_⟩
  by_cases hclamp : s.cfg.nPrio - 1 < s.cfg.prioGrid.toNat
  · rw [if_pos hclamp, tierReport, if_pos hclamp]; rfl
  · rw [if_neg hclamp, tierReport, if_neg hclamp, List.append_nil]; rfl

/-- EMITALL sends the slots of the table in the order `EmissionOrder` fixes. -/
theorem emitAll_emits (s : State) :
    ∃ order, EmissionOrder s.slots order
      ∧ emitAll s = { s with
          slots := []
          txSeq := s.txSeq + BitVec.ofNat 7 order.length
          out := s.out ++ framesFrom s.txSeq order } :=
  ⟨emitOrder s.slots, emitOrder_emissionOrder s.slots, by rw [emitAll_eq, emitOrder_length]⟩

end Sys2Proof.Machine
end

section
/-! PROOF. The connection state machine (43_handshake): how a frame the router accepts acts on the link, what the three
other link events do, and which instructions move `conn` where. -/

namespace Sys2Proof.Machine

/-! ## The router and the link -/

/-- A frame that passes both of the router's checks acts on the link and is then dispatched (42_registry_router R140,
R141). -/
theorem route_of_accepts {cmd : Byte} {seq : Septet} {payload : Bytes} {s : State} (h : s.accepts cmd payload.length) :
    route (fencFrame cmd seq payload) s
      = andThen (connectOn (fencFrame cmd seq payload) s) (fun s1 =>
          .next (s1.emit (.dispatch cmd (seq.setWidth 8) payload (registryAt s.cfg.registry cmd)))) := by
  obtain ⟨hfits, hdir⟩ := h
  have hshape : ¬ shapeMismatch (registryAt s.cfg.registry cmd) payload.length = true := by
    rw [shapeMismatch_iff]
    rintro ⟨id, dir, n, hentry, hlen⟩
    obtain rfl : id = cmd := registryAt_id hentry
    exact hlen (hfits dir n hentry)
  have hway : ¬ (s.cfg.dirCheck && wrongWay (registryAt s.cfg.registry cmd)) = true := by
    rw [Bool.and_eq_true, wrongWay_iff]
    rintro ⟨hcheck, id, size, hentry⟩
    obtain rfl : id = cmd := registryAt_id hentry
    exact hdir hcheck size hentry
  exact (if_neg hshape).trans (if_neg hway)

theorem connectOn_of_connected (f : Frame) {s : State} (h : s.conn = .connected) : connectOn f s = .next s := if_pos h

theorem connectOn_of_unconnected (f : Frame) {s : State} (h : s.conn ≠ .connected) :
    connectOn f s = enterConnected (f.command == cmdHandshakeByte) s := if_neg h

/-! ## A frame on an unconnected link -/

/-- ENTERCONNECTED where there is room, with the dispatch that follows it (43_handshake R152, R154). -/
theorem enterConnected_then_dispatch (reply : Bool) {s : State} (dispatched : Output) (h : s.roomForGrid) :
    ∃ queued order, Upserted (gridSlot s) s.slots queued ∧ EmissionOrder queued order
      ∧ andThen (enterConnected reply s) (fun s1 => .next (s1.emit dispatched))
          = .next (s.connectedBy reply order dispatched) := by
  obtain ⟨queued, hupserted, hqueue⟩ := queueGrid_upserts (s := dumpStart reply s) h
  obtain ⟨order, horder, hemit⟩ := emitAll_emits
    { dumpStart reply s with
      slots := queued
      out := (dumpStart reply s).out ++ tierReport (dumpStart reply s) s.cfg.prioGrid }
  refine ⟨queued, order, hupserted, horder, ?_⟩
  have hconnects := (enterConnected_eq reply s).trans (congrArg (andThen · _) hqueue)
  rw [hconnects, andThen_next, andThen_next]
  refine congrArg Host.Outcome.next ((congrArg (State.emit · dispatched) hemit).trans ?_)
  cases reply <;> simp [dumpStart, State.connectedBy, State.emit, tierReport]

/-- Whether the link replies is decided by the command byte alone (43_handshake R147, R148). -/
theorem reception_connects {s : State} {cmd : Byte} (seq : Septet) {payload : Bytes} (hp : payloadOk payload = true)
    (haccepts : s.accepts cmd payload.length) (hconn : s.conn ≠ .connected) (hroom : s.roomForGrid) :
    ∃ queued order, Upserted (gridSlot s) s.slots queued ∧ EmissionOrder queued order
      ∧ ReceptionGives cmd seq payload s (s.connectedBy (cmd == cmdHandshakeByte) order
          (.dispatch cmd (seq.setWidth 8) payload (registryAt s.cfg.registry cmd))) := by
  obtain ⟨queued, order, hupserted, horder, henter⟩ := enterConnected_then_dispatch (cmd == cmdHandshakeByte)
    (.dispatch cmd (seq.setWidth 8) payload (registryAt s.cfg.registry cmd)) hroom
  refine ⟨queued, order, hupserted, horder, receptionAnswers_of_route hp ?_⟩
  rw [route_of_accepts haccepts, connectOn_of_unconnected _ hconn]
  exact henter

/-- Settles O13: the handshake byte is the one that is answered. -/
theorem handshakeFrameRepliesAndConnects : Obligations.HandshakeFrameRepliesAndConnects :=
  fun _ seq _ hp haccepts hconn hroom => reception_connects seq hp haccepts hconn hroom

/-- Settles O14: any other byte, whether the registry knows it or not, connects without a reply. -/
theorem anyOtherFrameConnectsWithoutReply : Obligations.AnyOtherFrameConnectsWithoutReply := by
  intro s cmd seq payload hcmd hp haccepts hconn hroom
  have hreply : (cmd == cmdHandshakeByte) = false := beq_false_of_ne hcmd
  exact hreply ▸ reception_connects seq hp haccepts hconn hroom

/-! ## A frame on a connected link -/

/-- Settles O15: on a connected link only the dispatch of the router is left. -/
theorem frameOnConnectedLinkIsOnlyDispatched : Obligations.FrameOnConnectedLinkIsOnlyDispatched := by
  intro s cmd seq payload hp haccepts hconn
  refine receptionAnswers_of_route hp ?_
  rw [route_of_accepts haccepts, connectOn_of_connected _ hconn]
  rfl

/-! ## The other link events -/

/-- Settles O16: SEND from an armed and unconnected state, else the state as it is. -/
theorem tickretrySendsOneHandshake : Obligations.TickretrySendsOneHandshake := by
  intro s
  by_cases hactive : s.retryArmed = true ∧ s.conn ≠ .connected
  · rw [if_pos hactive]; exact if_pos hactive
  · rw [if_neg hactive]; exact if_neg hactive

/-- Settles O17: SEND after the link and the timer are written, else the state as it is. -/
theorem teardownDisconnects : Obligations.TeardownDisconnects := by
  intro s
  by_cases hconn : s.conn = .connected
  · rw [if_pos hconn]; exact if_pos hconn
  · rw [if_neg hconn]; exact if_neg hconn

/-- Settles O18: the elements are those of the reset state of the configuration, which O19 gives. -/
theorem linkinitResetsEveryElement : Obligations.LinkinitResetsEveryElement := by
  intro s
  obtain ⟨hreset, -⟩ := resetHoldsTheStatedValues
  obtain ⟨hconn, harmed, hseq, hwin, hgrid, hslots, hflush, hsubs⟩ := hreset s.cfg
  exact ⟨linkReset s, rfl, hconn, harmed, hseq, hwin, hgrid, hslots, hflush, hsubs, rfl, rfl, rfl, rfl⟩

/-! ## The transitions of `conn` (43_handshake R145) -/

/-- A reception leaves `conn` as it is, or connects and cancels the timer. -/
theorem receive_conn {buf : Bytes} {s t : State} (h : receive buf s = .next t) :
    t.conn = s.conn ∨ (t.conn = .connected ∧ t.retryArmed = false) := by
  obtain ⟨e, -, rfl⟩ | ⟨f, -, hroute⟩ := receive_eq_next h
  · exact .inl rfl
  · obtain ⟨-, rfl⟩ | ⟨-, -, rfl⟩ | ⟨s1, hlink, rfl⟩ := route_eq_next hroute
    · exact .inl rfl
    · exact .inl rfl
    · obtain ⟨-, rfl⟩ | ⟨-, henter⟩ := connectOn_eq_next hlink
      · exact .inl rfl
      · obtain ⟨hconn, harmed, -⟩ := enterConnected_frame henter
        exact .inr ⟨hconn, harmed⟩

/-- Every arrow of the connection state machine. -/
theorem Effect.conn_cases {s t : State} {i : Instr} (h : Effect s i t) :
    t.conn = s.conn
      ∨ (receptions i ∧ t.conn = .connected ∧ t.retryArmed = false)
      ∨ ((i = .teardown ∨ i = .linkinit) ∧ t.conn = .disconnected) := by
  cases h with
  | outputOnly ht => obtain ⟨new, rfl⟩ := ht; exact .inl rfl
  | reception hi _ h => exact (receive_conn h).imp_right fun hconnected => .inl ⟨hi, hconnected⟩
  | retry _ ht => exact .inl (ht ▸ rfl)
  | teardown hi ht => exact .inr (.inr ⟨.inl hi, ht ▸ rfl⟩)
  | linkinit hi ht => exact .inr (.inr ⟨.inr hi, ht ▸ rfl⟩)
  | queue _ _ _ _ _ h => obtain ⟨hconn, -⟩ := queueSlot_frame h; exact .inl hconn
  | flush _ _ ht | forceflush _ ht => exact .inl (by simp [ht, emitAll_eq])
  | window _ _ _ _ _ _ h => obtain ⟨-, hconn, -⟩ := winChange_frame h; exact .inl hconn
  | cellupdate _ _ _ _ _ _ _ _ _ _ h => obtain ⟨hconn, -⟩ := queueGrid_frame h; exact .inl hconn

/-- Settles O50: of the arrows, those to a state other than `Connected` are TEARDOWN's and LINKINIT's. -/
theorem onlyTeardownAndLinkinitLeaveConnected : Obligations.OnlyTeardownAndLinkinitLeaveConnected := by
  intro s t i hs h ht
  obtain hsame | ⟨-, hconn, -⟩ | hleaves := (exec_effect h).conn_cases
  · exact absurd (hsame.trans hs) ht
  · exact absurd hconn ht
  · exact hleaves

/-- Settles O51: of the arrows, those to `Connected` are the receptions', which cancel the timer. -/
theorem onlyReceptionsConnect : Obligations.OnlyReceptionsConnect := by
  intro s t i hs h ht
  obtain hsame | ⟨hi, -, harmed⟩ | ⟨-, hconn⟩ := (exec_effect h).conn_cases
  · exact absurd (hsame.symm.trans ht) hs
  · exact ⟨hi, harmed⟩
  · simp [hconn] at ht

/-- Settles O52: no arrow ends in `AwaitingReply`. -/
theorem nothingEntersAwaitingReply : Obligations.NothingEntersAwaitingReply := by
  intro s t i h ht
  obtain hsame | ⟨-, hconn, -⟩ | ⟨-, hconn⟩ := (exec_effect h).conn_cases
  · exact hsame.symm.trans ht
  · simp [hconn] at ht
  · simp [hconn] at ht

end Sys2Proof.Machine
end

section
/-! PROOF. MessageCoalescer (44_coalescer): the cases of QUEUE, each with its answer written out; a table without room
under the events that queue the grid of themselves; the drains; and what a run of QUEUE events leaves pending. -/

namespace Sys2Proof.Machine

/-! ## The cases of QUEUE (R165, R171) -/

theorem queueSlot_of_not_sevenBit {payload : Bytes} (cmd : Byte) (key : Word14) (prio : Byte) (s : State)
    (h : allSevenBit payload = false) : queueSlot cmd key payload prio s = .refused .payloadNotSevenBit :=
  if_pos (by rw [h]; rfl)

theorem queueSlot_of_oversize {payload : Bytes} (cmd : Byte) (key : Word14) (prio : Byte) (s : State)
    (h7 : allSevenBit payload = true) (hlen : lenMax < payload.length) :
    queueSlot cmd key payload prio s = raise .oversize s :=
  (if_neg (by rw [h7]; decide)).trans (if_pos hlen)

/-- The slot a QUEUE event asks for: its tier is clamped to the top one. -/
def askedSlot (cmd : Byte) (key : Word14) (payload : Bytes) (prio : Byte) (s : State) : Slot :=
  ⟨cmd, key, payload, min prio.toNat (s.cfg.nPrio - 1)⟩

theorem queueSlot_of_upsertSlot_eq_some {cmd : Byte} {key : Word14} {payload : Bytes} {prio : Byte} {s : State}
    {queued : List Slot} (hp : payloadOk payload = true)
    (h : upsertSlot s.cfg.nSlots (askedSlot cmd key payload prio s) s.slots = some queued) :
    queueSlot cmd key payload prio s = .next { s with slots := queued, out := s.out ++ tierReport s prio } := by
  obtain ⟨hlen, hbytes⟩ := (payloadOk_iff payload).1 hp
  have h7 : allSevenBit payload = true := (allSevenBit_iff payload).2 hbytes
  simp only [askedSlot] at h
  by_cases hclamp : s.cfg.nPrio - 1 < prio.toNat
  · simp [queueSlot, h7, Nat.not_lt.2 hlen, h, hclamp, tierReport, State.putSlots, State.emit]
  · simp [queueSlot, h7, Nat.not_lt.2 hlen, h, hclamp, tierReport, State.putSlots]

theorem queueSlot_of_upsertSlot_eq_none {cmd : Byte} {key : Word14} {payload : Bytes} {prio : Byte} {s : State}
    (hp : payloadOk payload = true)
    (h : upsertSlot s.cfg.nSlots (askedSlot cmd key payload prio s) s.slots = none) :
    queueSlot cmd key payload prio s = .refused .coalescerFull := by
  obtain ⟨hlen, hbytes⟩ := (payloadOk_iff payload).1 hp
  have h7 : allSevenBit payload = true := (allSevenBit_iff payload).2 hbytes
  simp only [askedSlot] at h
  simp [queueSlot, h7, Nat.not_lt.2 hlen, h]

/-- The payload alone decides which of the cases applies. -/
theorem payload_cases (p : Bytes) :
    allSevenBit p = false ∨ (allSevenBit p = true ∧ lenMax < p.length) ∨ payloadOk p = true := by
  by_cases h7 : allSevenBit p = true
  · by_cases hlen : lenMax < p.length
    · exact .inr (.inl ⟨h7, hlen⟩)
    · exact .inr (.inr ((payloadOk_iff p).2 ⟨Nat.le_of_not_lt hlen, (allSevenBit_iff p).1 h7⟩))
  · exact .inl (Bool.eq_false_of_not_eq_true h7)

/-- There is no place for a slot exactly where its address has no room. -/
theorem upsertSlot_eq_none_iff_not_roomFor (s : State) (x : Slot) :
    upsertSlot s.cfg.nSlots x s.slots = none ↔ ¬ s.roomFor x.cmd x.key := by
  rw [upsertSlot_eq_none, State.roomFor, not_or, Nat.not_lt]
  simp

theorem queueSlot_upserts {cmd : Byte} {key : Word14} {payload : Bytes} (prio : Byte) {s : State}
    (hp : payloadOk payload = true) (hroom : s.roomFor cmd key) :
    ∃ queued, upsertSlot s.cfg.nSlots (askedSlot cmd key payload prio s) s.slots = some queued
      ∧ queueSlot cmd key payload prio s = .next { s with slots := queued, out := s.out ++ tierReport s prio } := by
  have hfound := mt (upsertSlot_eq_none_iff_not_roomFor s (askedSlot cmd key payload prio s)).1 (not_not.2 hroom)
  obtain ⟨queued, hupsert⟩ := Option.ne_none_iff_exists'.1 hfound
  exact ⟨queued, hupsert, queueSlot_of_upsertSlot_eq_some hp hupsert⟩

theorem queueSlot_refuses {cmd : Byte} {key : Word14} {payload : Bytes} (prio : Byte) {s : State}
    (hp : payloadOk payload = true) (hroom : ¬ s.roomFor cmd key) :
    queueSlot cmd key payload prio s = .refused .coalescerFull :=
  queueSlot_of_upsertSlot_eq_none hp ((upsertSlot_eq_none_iff_not_roomFor s _).2 hroom)

/-- A payload that can be framed and an answer leave only the case with room. -/
theorem queueSlot_eq_next_of_payloadOk {cmd : Byte} {key : Word14} {payload : Bytes} {prio : Byte} {s t : State}
    (hp : payloadOk payload = true) (h : queueSlot cmd key payload prio s = .next t) :
    ∃ queued, upsertSlot s.cfg.nSlots (askedSlot cmd key payload prio s) s.slots = some queued
      ∧ t = { s with slots := queued, out := s.out ++ tierReport s prio } := by
  by_cases hroom : s.roomFor cmd key
  · obtain ⟨queued, hupsert, hqueue⟩ := queueSlot_upserts prio hp hroom
    exact ⟨queued, hupsert, Host.Outcome.next.inj (h.symm.trans hqueue)⟩
  · rw [queueSlot_refuses prio hp hroom] at h; cases h

/-- Settles O20: where there is room the upsert finds a place, and QUEUE writes nothing but that and the report. -/
theorem queueUpsertsOneSlot : Obligations.QueueUpsertsOneSlot := by
  intro s cmd key payload prio hp hroom
  obtain ⟨queued, hupsert, hqueue⟩ := queueSlot_upserts prio hp hroom
  exact ⟨queued, upserted_of_upsertSlot hupsert, hqueue⟩

/-- Settles O21: the three other cases, in the order in which QUEUE tests for them. -/
theorem queueRejectsWhatItCannotHold : Obligations.QueueRejectsWhatItCannotHold := by
  intro s cmd key payload prio
  refine ⟨fun hhigh => ?highByte, fun h7 hlen => ?oversize, fun hp hroom => ?full⟩
  case highByte => exact queueSlot_of_not_sevenBit cmd key prio s ((allSevenBit_eq_false_iff payload).2 hhigh)
  case oversize => exact queueSlot_of_oversize cmd key prio s ((allSevenBit_iff payload).2 h7) hlen
  case full => exact queueSlot_refuses prio hp hroom

/-! ## Queueing the same again (20_memory R63) -/

/-- An upsert of the slot that is in its place already changes nothing. -/
theorem upsertSlot_idem {n : Nat} {x : Slot} {slots queued : List Slot} (h : upsertSlot n x slots = some queued) :
    upsertSlot n x queued = some queued := by
  obtain ⟨pre, post, rfl, hpre⟩ : ∃ pre post, queued = pre ++ x :: post ∧ ∀ z ∈ pre, ¬ z.at x.cmd x.key := by
    obtain ⟨pre, y, post, -, hpre, -, rfl⟩ | ⟨hnew, rfl⟩ := upserted_of_upsertSlot h
    · exact ⟨pre, post, rfl, hpre⟩
    · exact ⟨slots, [], rfl, hnew⟩
  have hx : x.at x.cmd x.key := ⟨rfl, rfl⟩
  have hpending : (pre ++ x :: post).any (fun y => y.sameKey x) = true :=
    List.any_eq_true.2 ⟨x, by simp, (sameKey_iff_at x x).2 hx⟩
  rw [upsertSlot, if_pos hpending, overwriteSlot_append_cons post hpre hx]

/-- Settles O23: `Oversize` is raised again, and an upserted slot is upserted into its own place. -/
theorem queueTwiceIsQueueOnce : Obligations.QueueTwiceIsQueueOnce := by
  intro s t cmd key payload prio h
  have hqueue : queueSlot cmd key payload prio s = .next t := h
  obtain h7 | ⟨h7, hlen⟩ | hp := payload_cases payload
  · rw [queueSlot_of_not_sevenBit cmd key prio s h7] at hqueue; cases hqueue
  · exact ⟨_, queueSlot_of_oversize cmd key prio t h7 hlen⟩
  · obtain ⟨queued, hupsert, rfl⟩ := queueSlot_eq_next_of_payloadOk hp hqueue
    exact ⟨tierReport s prio, queueSlot_of_upsertSlot_eq_some hp (upsertSlot_idem hupsert)⟩

/-! ## No room for the grid frame (R171, log 20) -/

/-- Every window operation ends in WINCHANGE (45_ring_tracker R191). -/
theorem exec_windowOp {i : Instr} (hi : windowOps i) (s : State) : ∃ w, exec i s = winChange w s := by
  obtain rfl | rfl | rfl | rfl | ⟨track, scene, rfl⟩ | ⟨tracks, scenes, rfl⟩ | ⟨on, rfl⟩ := hi <;> exact ⟨_, rfl⟩

/-- The notifications CELLUPDATE writes: of a subscribed cell inside the configured grid (46_grid_sync R200). -/
theorem execCellupdate_of_written {track scene : Word14} (r g b : Byte) (occ : BitVec 1) {s : State}
    (hsub : ⟨track, scene⟩ ∈ Subs.dom s.subs)
    (htrack : inSpan track.toNat s.win.trackOffset.toNat s.cfg.gridW.toNat = true)
    (hscene : inSpan scene.toNat s.win.sceneOffset.toNat s.cfg.gridH.toNat = true) :
    execCellupdate track scene r g b occ s = queueGrid (s.putCell
      (padIndex s.cfg.gridW (track.toNat - s.win.trackOffset.toNat) (scene.toNat - s.win.sceneOffset.toNat))
      ⟨r, g, b, occ == 1⟩) := by
  have hread : ¬ (s.subs.read ⟨track, scene⟩).isNone = true := by
    rw [Option.isNone_iff_eq_none, ← Option.not_isSome_iff_eq_none, not_not]
    exact (Subs.read_isSome s.subs _).2 hsub
  rw [execCellupdate, if_neg hread, if_pos (by rw [htrack, hscene]; rfl)]

/-- Settles O22: each of the events hands QUEUEGRID a state with the slots of `s`, or does nothing. -/
theorem gridFrameNeedsRoom : Obligations.GridFrameNeedsRoom := by
  intro s hroom
  refine ⟨fun track scene r g b occ hsub ht ht' hs hs' => ?cell,
    fun cmd seq payload hp haccepts hconn => ?reception, fun i hi => ?window⟩
  case cell =>
    exact (execCellupdate_of_written r g b occ hsub ((inSpan_iff _ _ _).2 ⟨ht, ht'⟩)
      ((inSpan_iff _ _ _).2 ⟨hs, hs'⟩)).trans (queueGrid_refuses hroom)
  case reception =>
    refine receptionAnswers_of_route hp ?_
    rw [route_of_accepts haccepts, connectOn_of_unconnected _ hconn, enterConnected_refuses hroom, andThen_refused]
  case window =>
    obtain ⟨w, hw⟩ := exec_windowOp hi s
    by_cases hsame : w = s.win
    · exact .inl (hw.trans (if_pos hsame))
    · exact .inr (hw.trans (winChange_refuses hroom hsame))

/-! ## The drains (R166 to R168) -/

theorem flushDue_iff (lastFlush : Option Nat) (tFlushMin now : Nat) :
    flushDue lastFlush tFlushMin now = true
      ↔ lastFlush = none ∨ ∃ t, lastFlush = some t ∧ t + tFlushMin ≤ now := by
  cases lastFlush <;> simp [flushDue]

/-- Settles O24: FORCEFLUSH is EMITALL. -/
theorem forceflushDrainsByPriority : Obligations.ForceflushDrainsByPriority := by
  intro s
  obtain ⟨order, horder, hemit⟩ := emitAll_emits s
  exact ⟨order, horder, congrArg Host.Outcome.next hemit⟩

/-- Settles O25: FLUSH is EMITALL with the time recorded where the gate passes, and nothing elsewhere. -/
theorem flushPassesTheRateGate : Obligations.FlushPassesTheRateGate := by
  intro s now
  refine ⟨fun hdue => ?opened, fun t ht hlt => ?closed⟩
  case opened =>
    obtain ⟨order, horder, hemit⟩ := emitAll_emits (s.putLastFlush now)
    exact ⟨order, horder, (if_pos ((flushDue_iff _ _ _).2 hdue)).trans (congrArg Host.Outcome.next hemit)⟩
  case closed =>
    refine if_neg (mt (flushDue_iff _ _ _).1 ?_)
    rintro (hnone | ⟨t', ht', hle⟩)
    · rw [ht] at hnone; cases hnone
    · obtain rfl : t = t' := Option.some.inj (ht.symm.trans ht')
      omega

/-! ## The coalescing law (R169) -/

/-- A list of at most one payload is its last one. -/
theorem toList_getLast?_of_length_le_one : ∀ {l : List Bytes}, l.length ≤ 1 → l.getLast?.toList = l
  | [], _ => rfl
  | [_], _ => rfl
  | _ :: _ :: _, h => by simp at h

theorem getLast?_toList (p : Option Bytes) : p.toList.getLast? = p := by cases p <;> rfl

/-- The payloads pending under one address, in the order of the table. -/
def payloadsAt (cmd : Byte) (key : Word14) (slots : List Slot) : List Bytes :=
  (slots.filter (fun x => x.cmd == cmd && x.key == key)).map (·.payload)

/-- The payloads a run of QUEUE events queues under one address, in the order of the run. -/
def payloadsQueued (cmd : Byte) (key : Word14) (calls : List (Byte × Word14 × Bytes × Byte)) : List Bytes :=
  (calls.filter (fun q => q.1 == cmd && q.2.1 == key)).map (fun q => q.2.2.1)

theorem payloadsQueued_cons (cmd : Byte) (key : Word14) (q : Byte × Word14 × Bytes × Byte)
    (rest : List (Byte × Word14 × Bytes × Byte)) :
    payloadsQueued cmd key (q :: rest) = payloadsQueued cmd key [q] ++ payloadsQueued cmd key rest := by
  simp only [payloadsQueued, ← List.map_append, ← List.filter_append, List.singleton_append]

theorem payloadsAt_append (cmd : Byte) (key : Word14) (l m : List Slot) :
    payloadsAt cmd key (l ++ m) = payloadsAt cmd key l ++ payloadsAt cmd key m := by
  simp [payloadsAt]

theorem payloadsAt_cons_of_at {x : Slot} {cmd : Byte} {key : Word14} (hx : x.at cmd key) (l : List Slot) :
    payloadsAt cmd key (x :: l) = x.payload :: payloadsAt cmd key l := by
  obtain ⟨rfl, rfl⟩ := hx
  simp [payloadsAt]

theorem payloadsAt_cons_of_not_at {x : Slot} {cmd : Byte} {key : Word14} (hx : ¬ x.at cmd key) (l : List Slot) :
    payloadsAt cmd key (x :: l) = payloadsAt cmd key l := by
  have hskip : ¬ (x.cmd == cmd && x.key == key) = true := by simpa [Slot.at] using hx
  simp only [payloadsAt, List.filter_cons, if_neg hskip]

theorem payloadsAt_eq_nil {cmd : Byte} {key : Word14} {l : List Slot} (hl : ∀ z ∈ l, ¬ z.at cmd key) :
    payloadsAt cmd key l = [] := by
  simpa [payloadsAt, Slot.at] using hl

/-- Under its own address an upsert leaves the new payload in the place of the one that was pending. -/
theorem payloadsAt_upserted_same {x : Slot} {slots queued : List Slot} (h : Upserted x slots queued)
    (hone : (payloadsAt x.cmd x.key slots).length ≤ 1) : payloadsAt x.cmd x.key queued = [x.payload] := by
  have hx : x.at x.cmd x.key := ⟨rfl, rfl⟩
  obtain ⟨pre, y, post, rfl, hpre, hy, rfl⟩ | ⟨hnew, rfl⟩ := h
  · rw [payloadsAt_append, payloadsAt_eq_nil hpre, payloadsAt_cons_of_at hy] at hone
    have hpost : payloadsAt x.cmd x.key post = [] := by simpa using hone
    rw [payloadsAt_append, payloadsAt_eq_nil hpre, payloadsAt_cons_of_at hx, hpost]; rfl
  · rw [payloadsAt_append, payloadsAt_eq_nil hnew, payloadsAt_cons_of_at hx]; rfl

/-- Under every other address an upsert leaves what was pending. -/
theorem payloadsAt_upserted_other {x : Slot} {slots queued : List Slot} (h : Upserted x slots queued) {cmd : Byte}
    {key : Word14} (hx : ¬ x.at cmd key) : payloadsAt cmd key queued = payloadsAt cmd key slots := by
  obtain ⟨pre, y, post, rfl, -, ⟨hcmd, hkey⟩, rfl⟩ | ⟨-, rfl⟩ := h
  · have hy : ¬ y.at cmd key := by rwa [Slot.at, hcmd, hkey]
    simp only [payloadsAt_append, payloadsAt_cons_of_not_at hx, payloadsAt_cons_of_not_at hy]
  · rw [payloadsAt_append, payloadsAt_cons_of_not_at hx]; exact List.append_nil _

/-- One QUEUE event: under each address the last of what was pending and what is queued. -/
theorem payloadsAt_queueSlot {c : Byte} {k : Word14} {payload : Bytes} {prio : Byte} {s t : State}
    (hp : payloadOk payload = true) (h : queueSlot c k payload prio s = .next t) {cmd : Byte} {key : Word14}
    (hone : (payloadsAt cmd key s.slots).length ≤ 1) :
    payloadsAt cmd key t.slots
      = (payloadsAt cmd key s.slots ++ payloadsQueued cmd key [(c, k, payload, prio)]).getLast?.toList := by
  obtain ⟨queued, hupsert, rfl⟩ := queueSlot_eq_next_of_payloadOk hp h
  have hupserted := upserted_of_upsertSlot hupsert
  by_cases hat : c = cmd ∧ k = key
  · obtain ⟨rfl, rfl⟩ := hat
    exact (payloadsAt_upserted_same hupserted hone).trans (by simp [payloadsQueued, askedSlot])
  · have hnone : payloadsQueued cmd key [(c, k, payload, prio)] = [] := by simpa [payloadsQueued] using hat
    rw [hnone, List.append_nil, toList_getLast?_of_length_le_one hone]
    exact payloadsAt_upserted_other hupserted hat

/-- A run of QUEUE events: under each address the last of what was pending and what the run queues. -/
theorem payloadsAt_execList_queue {calls : List (Byte × Word14 × Bytes × Byte)} {s t : State}
    (hp : ∀ q ∈ calls, payloadOk q.2.2.1 = true)
    (h : execList (calls.map (fun q => .queue q.1 q.2.1 q.2.2.1 q.2.2.2)) s = .next t) {cmd : Byte} {key : Word14}
    (hone : (payloadsAt cmd key s.slots).length ≤ 1) :
    payloadsAt cmd key t.slots = (payloadsAt cmd key s.slots ++ payloadsQueued cmd key calls).getLast?.toList := by
  induction calls generalizing s with
  | nil =>
    cases h
    rw [payloadsQueued, List.filter_nil, List.map_nil, List.append_nil, toList_getLast?_of_length_le_one hone]
  | cons q rest ih =>
    obtain ⟨c, k, payload, prio⟩ := q
    obtain ⟨hq, hrest⟩ := List.forall_mem_cons.1 hp
    obtain ⟨s1, hs1, ht⟩ := (andThen_eq_next _ _ _).1 h
    have hstep := payloadsAt_queueSlot hq hs1 hone
    have hone1 : (payloadsAt cmd key s1.slots).length ≤ 1 := hstep ▸ Option.length_toList_le
    rw [ih hrest ht hone1, hstep, List.getLast?_append, getLast?_toList, ← List.getLast?_append, List.append_assoc,
      ← payloadsQueued_cons]

/-- The order of emission keeps the one payload pending under an address. -/
theorem payloadsAt_of_emissionOrder {slots order : List Slot} (h : EmissionOrder slots order) {cmd : Byte}
    {key : Word14} {p : Option Bytes} (hp : payloadsAt cmd key slots = p.toList) :
    payloadsAt cmd key order = p.toList := by
  obtain ⟨hperm, -, -⟩ := h
  have hsame : (payloadsAt cmd key order).Perm p.toList := hp ▸ (hperm.filter _).map _
  cases p with
  | none => exact hsame.eq_nil
  | some b => exact hsame.eq_singleton

/-- Settles O26: from an empty table the run leaves under each address the last payload queued, and the drain keeps
it. -/
theorem drainEmitsTheLastPayloadOnce : Obligations.DrainEmitsTheLastPayloadOnce := by
  intro s t calls hempty hp hrun
  obtain ⟨order, horder, hforce⟩ := forceflushDrainsByPriority t
  refine ⟨order, hforce, fun cmd key => payloadsAt_of_emissionOrder horder ?_⟩
  have hnone : payloadsAt cmd key s.slots = [] := by rw [hempty]; rfl
  have hlast := payloadsAt_execList_queue hp hrun (cmd := cmd) (key := key) (by simp [hnone])
  rw [hlast, hnone, List.nil_append, payloadsQueued]

/-! ## The connection state (R170) -/

theorem queueSlot_putConn (cmd : Byte) (key : Word14) (payload : Bytes) (prio : Byte) (s : State) (c : Conn) :
    queueSlot cmd key payload prio (s.putConn c)
      = andThen (queueSlot cmd key payload prio s) (fun t => .next (t.putConn c)) := by
  obtain h7 | ⟨h7, hlen⟩ | hp := payload_cases payload
  · simp only [queueSlot_of_not_sevenBit _ _ _ _ h7, andThen_refused]
  · simp only [queueSlot_of_oversize _ _ _ _ h7 hlen]; rfl
  · by_cases hroom : s.roomFor cmd key
    · obtain ⟨queued, hupsert, hqueue⟩ := queueSlot_upserts prio hp hroom
      rw [hqueue, andThen_next]
      exact queueSlot_of_upsertSlot_eq_some (s := s.putConn c) hp hupsert
    · rw [queueSlot_refuses prio hp hroom, andThen_refused]
      exact queueSlot_refuses (s := s.putConn c) prio hp hroom

theorem emitAll_putConn (s : State) (c : Conn) : emitAll (s.putConn c) = (emitAll s).putConn c := by
  simp only [emitAll_eq, State.putConn]

theorem execFlush_putConn (now : Nat) (s : State) (c : Conn) :
    execFlush now (s.putConn c) = andThen (execFlush now s) (fun t => .next (t.putConn c)) := by
  by_cases hdue : flushDue s.lastFlush s.cfg.tFlushMin now = true
  · have hopen : execFlush now s = .next (emitAll (s.putLastFlush now)) := if_pos hdue
    rw [hopen, andThen_next, ← emitAll_putConn]
    exact if_pos hdue
  · have hshut : execFlush now s = .next s := if_neg hdue
    rw [hshut, andThen_next]
    exact if_neg hdue

/-- Settles O27: writing `conn` before a coalescer event is writing it after. -/
theorem coalescerIgnoresTheConnection : Obligations.CoalescerIgnoresTheConnection := by
  intro s c i hi
  have hcommutes : exec i (s.putConn c) = andThen (exec i s) (fun t => .next (t.putConn c)) := by
    obtain ⟨cmd, key, payload, prio, rfl⟩ | ⟨now, rfl⟩ | rfl := hi
    · exact queueSlot_putConn cmd key payload prio s c
    · exact execFlush_putConn now s c
    · exact congrArg Host.Outcome.next (emitAll_putConn s c)
  refine ⟨fun t ht => ?_, fun r hr => ?_⟩
  · rw [ht] at hcommutes; exact hcommutes
  · rw [hr] at hcommutes; exact hcommutes

end Sys2Proof.Machine
end

section
/-! PROOF. The window's arithmetic and the operations that move it (45_ring_tracker R180 to R190): `clampOff` said in
the naturals, WINCHANGE of a normalised window as `MovesWindowTo`, and FOLLOW on one axis. -/

namespace Sys2Proof.Machine

/-! ## The clamp (R180) -/

/-- Below 0 the clamp stops where `Int.toNat` does, above at the bound, which is 0 where the session is smaller than the
window. -/
theorem clampOff_toNat (off : Int) (total size : Nat) :
    (clampOff off total size).toNat = min off.toNat (total - size) := by
  unfold clampOff; omega

theorem normalizeAt_eq (w : RingWindow) (x y : Int) :
    normalizeAt w x y = { w with
      trackOffset := BitVec.ofNat 14 (min x.toNat (w.totalTracks.toNat - w.width.toNat))
      sceneOffset := BitVec.ofNat 14 (min y.toNat (w.totalScenes.toNat - w.height.toNat)) } := by
  simp only [normalizeAt, clampOff_toNat]

theorem ofNat_min_toNat (n m : Nat) (total : Word14) :
    (BitVec.ofNat 14 (min n (total.toNat - m))).toNat = min n (total.toNat - m) := by
  rw [BitVec.toNat_ofNat]
  exact Nat.mod_eq_of_lt (by omega)

@[simp] theorem normalizeAt_trackOffset (w : RingWindow) (x y : Int) :
    (normalizeAt w x y).trackOffset.toNat = min x.toNat (w.totalTracks.toNat - w.width.toNat) := by
  rw [normalizeAt_eq]; exact ofNat_min_toNat _ _ _

@[simp] theorem normalizeAt_sceneOffset (w : RingWindow) (x y : Int) :
    (normalizeAt w x y).sceneOffset.toNat = min y.toNat (w.totalScenes.toNat - w.height.toNat) := by
  rw [normalizeAt_eq]; exact ofNat_min_toNat _ _ _

@[simp] theorem normalizeAt_width (w : RingWindow) (x y : Int) : (normalizeAt w x y).width = w.width := rfl
@[simp] theorem normalizeAt_height (w : RingWindow) (x y : Int) : (normalizeAt w x y).height = w.height := rfl
@[simp] theorem normalizeAt_totalTracks (w : RingWindow) (x y : Int) :
    (normalizeAt w x y).totalTracks = w.totalTracks := rfl
@[simp] theorem normalizeAt_totalScenes (w : RingWindow) (x y : Int) :
    (normalizeAt w x y).totalScenes = w.totalScenes := rfl

/-! ## Window operations (R182 to R186, R189, R190) -/

/-- Every window operation hands WINCHANGE a normalised window of the same size. -/
theorem exec_windowOp_normalizeAt {i : Instr} (hi : windowOps i) (s : State) :
    ∃ w x y, w.width = s.win.width ∧ w.height = s.win.height ∧ exec i s = winChange (normalizeAt w x y) s := by
  obtain rfl | rfl | rfl | rfl | ⟨track, scene, rfl⟩ | ⟨tracks, scenes, rfl⟩ | ⟨on, rfl⟩ := hi <;>
    refine ⟨_, _, _, ?_, ?_, rfl⟩ <;> rfl

theorem movesWindowTo_of_exec_eq_winChange {i : Instr} {s : State} {w : RingWindow}
    (h : exec i s = winChange w s) : MovesWindowTo i s w := by
  refine ⟨fun hsame => h.trans (if_pos hsame), fun hroom => ?_, fun hroom hw => h.trans (winChange_refuses hroom hw)⟩
  obtain ⟨t, ht, -⟩ := winChange_completes w hroom
  exact ⟨t, h.trans ht, winChange_frame ht⟩

/-- `m` and `n` are the offsets asked for, in the naturals. -/
theorem movesWindowTo_of_exec_eq_normalizeAt {i : Instr} {s : State} {w : RingWindow} {x y : Int} {m n : Nat}
    (hx : x.toNat = m) (hy : y.toNat = n) (h : exec i s = winChange (normalizeAt w x y) s) :
    MovesWindowTo i s { w with
      trackOffset := BitVec.ofNat 14 (min m (w.totalTracks.toNat - w.width.toNat))
      sceneOffset := BitVec.ofNat 14 (min n (w.totalScenes.toNat - w.height.toNat)) } := by
  subst hx hy
  rw [← normalizeAt_eq]
  exact movesWindowTo_of_exec_eq_winChange h

theorem trackOff_toNat (s : State) : (trackOff s).toNat = s.win.trackOffset.toNat := rfl

theorem sceneOff_toNat (s : State) : (sceneOff s).toNat = s.win.sceneOffset.toNat := rfl

/-- Settles O28: the four directions differ only in the offset they ask for. -/
theorem navigationMovesOneAndClamps : Obligations.NavigationMovesOneAndClamps := by
  intro s dir t' s' hdir
  obtain ⟨rfl, rfl, rfl⟩ | ⟨rfl, rfl, rfl⟩ | ⟨rfl, rfl, rfl⟩ | ⟨rfl, rfl, rfl⟩ := hdir
  · exact movesWindowTo_of_exec_eq_normalizeAt (x := trackOff s - 1) (by unfold trackOff; omega) (sceneOff_toNat s) rfl
  · exact movesWindowTo_of_exec_eq_normalizeAt (x := trackOff s + 1) (by unfold trackOff; omega) (sceneOff_toNat s) rfl
  · exact movesWindowTo_of_exec_eq_normalizeAt (y := sceneOff s - 1) (trackOff_toNat s) (by unfold sceneOff; omega) rfl
  · exact movesWindowTo_of_exec_eq_normalizeAt (y := sceneOff s + 1) (trackOff_toNat s) (by unfold sceneOff; omega) rfl

/-- Settles O31: the fields are written before the clamp, so that the new totals bound the offsets. -/
theorem windowSettersWriteAndClamp : Obligations.WindowSettersWriteAndClamp := by
  intro s
  refine ⟨fun tracks scenes => ?totals, fun on => ?overview⟩
  case totals =>
    exact movesWindowTo_of_exec_eq_normalizeAt (w := { s.win with totalTracks := tracks, totalScenes := scenes })
      (trackOff_toNat s) (sceneOff_toNat s) rfl
  case overview =>
    exact movesWindowTo_of_exec_eq_normalizeAt (w := { s.win with overviewMode := on == 1 })
      (trackOff_toNat s) (sceneOff_toNat s) rfl

/-- Settles O32: the window left is a normalised one. -/
theorem windowOperationsLeaveOffsetsInBounds : Obligations.WindowOperationsLeaveOffsetsInBounds := by
  intro s t i hi h
  obtain ⟨w, x, y, -, -, hexec⟩ := exec_windowOp_normalizeAt hi s
  obtain ⟨hwin, -⟩ := winChange_frame (hexec ▸ h)
  simp only [hwin, normalizeAt_trackOffset, normalizeAt_sceneOffset, normalizeAt_width, normalizeAt_height,
    normalizeAt_totalTracks, normalizeAt_totalScenes]
  exact ⟨Nat.min_le_right _ _, Nat.min_le_right _ _⟩

/-! ## FOLLOW on one axis (R186) -/

theorem followOffset_toNat (pos off size : Nat) : (followOffset pos off size).toNat = followAxis pos off size := by
  unfold followOffset followAxis
  split
  · rfl
  · split <;> omega

section
variable {pos off size total : Nat}

/-- From within the bounds, a position of the session asks for an offset within the bounds: the clamp does nothing. -/
theorem min_followAxis_eq (hoff : off ≤ total - size) (hfits : size ≤ total) (hpos : pos < total) :
    min (followAxis pos off size) (total - size) = followAxis pos off size := by
  unfold followAxis
  split
  · omega
  · split <;> omega

theorem followAxis_shows (hsize : 1 ≤ size) :
    followAxis pos off size ≤ pos ∧ pos < followAxis pos off size + size := by
  unfold followAxis
  split
  · omega
  · split <;> omega

/-- The near edge is no further off than any other offset that shows the position. -/
theorem followAxis_least {o : Nat} (ho : o ≤ pos) (ho' : pos < o + size) :
    ((followAxis pos off size : Int) - off).natAbs ≤ ((o : Int) - off).natAbs := by
  unfold followAxis
  split
  · omega
  · split <;> omega

end

/-- Settles O29: the offset the model asks for on an axis is `followAxis`, and the clamp is `normalizeAt`'s. -/
theorem followMovesToTheNearEdge : Obligations.FollowMovesToTheNearEdge := by
  intro s track scene
  exact movesWindowTo_of_exec_eq_normalizeAt (followOffset_toNat _ _ _) (followOffset_toNat _ _ _) rfl

/-- Settles O30: the clamp does nothing on either axis, so that the offsets left are those R186 asks for. -/
theorem followIsTheLeastShift : Obligations.FollowIsTheLeastShift := by
  intro s t track scene hinv hwidth hfitsW hheight hfitsH htrack hscene h
  obtain ⟨-, -, hboundT, hboundS⟩ := hinv
  obtain ⟨hwin, -⟩ := winChange_frame h
  have htrackOff : t.win.trackOffset.toNat = followAxis track.toNat s.win.trackOffset.toNat s.win.width.toNat := by
    rw [hwin, normalizeAt_trackOffset, followOffset_toNat, min_followAxis_eq hboundT hfitsW htrack]
  have hsceneOff : t.win.sceneOffset.toNat = followAxis scene.toNat s.win.sceneOffset.toNat s.win.height.toNat := by
    rw [hwin, normalizeAt_sceneOffset, followOffset_toNat, min_followAxis_eq hboundS hfitsH hscene]
  refine ⟨?shows, fun o ho ho' => ?leastTrack, fun o ho ho' => ?leastScene⟩
  case shows =>
    simp only [isVisible, showsAt, Bool.and_eq_true, decide_eq_true_eq, inSpan_iff, htrackOff, hsceneOff]
    rw [hwin]
    exact ⟨⟨⟨followAxis_shows hwidth, htrack⟩, followAxis_shows hheight⟩, hscene⟩
  case leastTrack => exact htrackOff ▸ followAxis_least ho ho'
  case leastScene => exact hsceneOff ▸ followAxis_least ho ho'

end Sys2Proof.Machine
end

section
/-! PROOF. The coordinate transforms (45_ring_tracker R187, R188): TOABS and TORING said once for every position, and
that each undoes the other on the window's rectangle. -/

namespace Sys2Proof.Machine

theorem min_pred_eq_self_iff {n size : Nat} (hsize : 1 ≤ size) : min n (size - 1) = n ↔ n < size := by omega

/-- Settles O36: the clamp is reported exactly where a coordinate lies past the window's last column or row. -/
theorem toabsAddsTheOffsets : Obligations.ToabsAddsTheOffsets := by
  intro s rt rs hwidth hheight
  have hclamped : (min rt.toNat (s.win.width.toNat - 1) ≠ rt.toNat ∨ min rs.toNat (s.win.height.toNat - 1) ≠ rs.toNat)
      ↔ ¬ (rt.toNat < s.win.width.toNat ∧ rs.toNat < s.win.height.toNat) := by
    rw [ne_eq, ne_eq, min_pred_eq_self_iff hwidth, min_pred_eq_self_iff hheight, not_and_or]
  by_cases hin : rt.toNat < s.win.width.toNat ∧ rs.toNat < s.win.height.toNat
  · rw [if_pos hin, List.append_nil]
    exact if_neg (mt hclamped.1 (not_not.2 hin))
  · rw [if_neg hin]
    exact if_pos (hclamped.2 hin)

/-- A position is in the window's rectangle, whether or not in the session (45_ring_tracker R188). -/
def inRectangle (w : RingWindow) (track scene : Nat) : Prop :=
  w.trackOffset.toNat ≤ track ∧ track < w.trackOffset.toNat + w.width.toNat
    ∧ w.sceneOffset.toNat ≤ scene ∧ scene < w.sceneOffset.toNat + w.height.toNat

theorem inSpan_and_inSpan_iff (w : RingWindow) (track scene : Nat) :
    (inSpan track w.trackOffset.toNat w.width.toNat && inSpan scene w.sceneOffset.toNat w.height.toNat) = true
      ↔ inRectangle w track scene := by
  rw [Bool.and_eq_true, inSpan_iff, inSpan_iff, inRectangle, and_assoc]

theorem exec_toring_of_inRectangle {s : State} {track scene : Word14}
    (h : inRectangle s.win track.toNat scene.toNat) :
    exec (.toring track scene) s = .next (s.emit (.result (.ring
      (some (track.toNat - s.win.trackOffset.toNat, scene.toNat - s.win.sceneOffset.toNat))))) :=
  if_pos ((inSpan_and_inSpan_iff _ _ _).2 h)

theorem exec_toring_of_not_inRectangle {s : State} {track scene : Word14}
    (h : ¬ inRectangle s.win track.toNat scene.toNat) :
    exec (.toring track scene) s = .next (s.emit (.result (.ring none))) :=
  if_neg (mt (inSpan_and_inSpan_iff _ _ _).1 h)

/-- Inside the window TOABS clamps nothing and reports nothing. -/
theorem exec_toabs_of_lt {s : State} {rt rs : Septet} (hrt : rt.toNat < s.win.width.toNat)
    (hrs : rs.toNat < s.win.height.toNat) :
    exec (.toabs rt rs) s = .next (s.emit (.result (.position
      (s.win.trackOffset.toNat + rt.toNat) (s.win.sceneOffset.toNat + rs.toNat)))) := by
  have hwidth : 1 ≤ s.win.width.toNat := Nat.one_le_of_lt hrt
  have hheight : 1 ≤ s.win.height.toNat := Nat.one_le_of_lt hrs
  rw [toabsAddsTheOffsets s rt rs hwidth hheight, if_pos ⟨hrt, hrs⟩, (min_pred_eq_self_iff hwidth).2 hrt,
    (min_pred_eq_self_iff hheight).2 hrs, List.append_nil]
  rfl

/-- A distance below a window's side is a ring coordinate. -/
theorem exists_septet_toNat_eq {n : Nat} {size : Septet} (h : n < size.toNat) : ∃ r : Septet, r.toNat = n :=
  ⟨BitVec.ofNat 7 n, by rw [BitVec.toNat_ofNat]; exact Nat.mod_eq_of_lt (h.trans size.isLt)⟩

/-- Settles O37: the distances to the offsets are the ring position, and adding the offsets again undoes them. -/
theorem toringInvertsToabs : Obligations.ToringInvertsToabs := by
  intro s track scene
  refine ⟨fun hin => ?inside, exec_toring_of_not_inRectangle⟩
  have hring := exec_toring_of_inRectangle hin
  obtain ⟨htrack, htrack', hscene, hscene'⟩ := hin
  obtain ⟨rt, hrt⟩ := exists_septet_toNat_eq (Nat.sub_lt_left_of_lt_add htrack htrack')
  obtain ⟨rs, hrs⟩ := exists_septet_toNat_eq (Nat.sub_lt_left_of_lt_add hscene hscene')
  have habs := exec_toabs_of_lt (s := s) (rt := rt) (rs := rs) (by omega) (by omega)
  rw [hrt, hrs, Nat.add_sub_cancel' htrack, Nat.add_sub_cancel' hscene] at habs
  rw [← hrt, ← hrs] at hring
  exact ⟨rt, rs, hrt, hrs, hring, habs⟩

end Sys2Proof.Machine
end

section
/-! PROOF. The window-change sequence (45_ring_tracker R191, 46_grid_sync R203): the visible set in its order, the pads
of a window of the configured size as that list, the table the subscriptions leave, and the trace of the whole. -/

namespace Sys2Proof.Machine

/-! ## The visible set in ascending (scene, track) order (R181) -/

theorem rank_ofNat {track scene : Nat} (ht : track < 16384) (hs : scene < 16384) :
    CellKey.rank ⟨BitVec.ofNat 14 track, BitVec.ofNat 14 scene⟩ = scene * 16384 + track := by
  simp only [CellKey.rank, BitVec.toNat_ofNat, Nat.reducePow, Nat.mod_eq_of_lt ht, Nat.mod_eq_of_lt hs]

theorem visibleSpan_pairwise (off size total : Nat) : (visibleSpan off size total).Pairwise (· < ·) := by
  refine (List.pairwise_map.2 ?_).filter _
  exact List.pairwise_lt_range.imp (Nat.add_lt_add_left · off)

theorem lt_of_mem_visibleSpan {off size x : Nat} {total : Word14} (h : x ∈ visibleSpan off size total.toNat) :
    x < 16384 := by
  obtain ⟨-, -, hx⟩ := (mem_visibleSpan _ _ _ _).1 h
  omega

theorem visibleCells_pairwise (w : RingWindow) : (visibleCells w).Pairwise (fun a b => a.rank < b.rank) := by
  refine List.pairwise_flatMap.2 ⟨fun scene hscene => List.pairwise_map.2 ?row, ?rows⟩
  case row =>
    refine (visibleSpan_pairwise _ _ _).imp_of_mem fun hx hy hxy => ?_
    rw [rank_ofNat (lt_of_mem_visibleSpan hx) (lt_of_mem_visibleSpan hscene),
      rank_ofNat (lt_of_mem_visibleSpan hy) (lt_of_mem_visibleSpan hscene)]
    exact Nat.add_lt_add_left hxy _
  case rows =>
    refine (visibleSpan_pairwise _ _ _).imp_of_mem fun hx hy hxy a ha b hb => ?_
    obtain ⟨ta, hta, rfl⟩ := List.mem_map.1 ha
    obtain ⟨tb, htb, rfl⟩ := List.mem_map.1 hb
    have hta' := lt_of_mem_visibleSpan hta
    rw [rank_ofNat hta' (lt_of_mem_visibleSpan hx), rank_ofNat (lt_of_mem_visibleSpan htb) (lt_of_mem_visibleSpan hy)]
    omega

theorem nodup_of_pairwise_rank {l : List CellKey} (h : l.Pairwise (fun a b => a.rank < b.rank)) : l.Nodup :=
  h.imp fun hlt heq => absurd (congrArg CellKey.rank heq) hlt.ne

/-- A list of cells in strictly ascending order is determined by its members. -/
theorem eq_of_pairwise_rank {l m : List CellKey} (hl : l.Pairwise (fun a b => a.rank < b.rank))
    (hm : m.Pairwise (fun a b => a.rank < b.rank)) (hmem : ∀ c, c ∈ l ↔ c ∈ m) : l = m := by
  have hperm : l.Perm m := (List.perm_ext_iff_of_nodup (nodup_of_pairwise_rank hl) (nodup_of_pairwise_rank hm)).2 hmem
  exact hperm.eq_of_pairwise (fun _ _ _ _ hab hba => absurd hba hab.asymm) hl hm

/-! ## The pads of a window of the configured size (46_grid_sync R203) -/

theorem padShowsCell_iff (s : State) (p : Nat) :
    padShowsCell s p = true
      ↔ p < s.cfg.gridW.toNat * s.cfg.gridH.toNat ∧ showsAt s.win (padTrack s p) (padScene s p) = true := by
  rw [padShowsCell, Bool.and_eq_true, decide_eq_true_eq]

theorem padTrack_padScene_lt {s : State} {p : Nat} (h : padShowsCell s p = true) :
    padTrack s p < s.win.totalTracks.toNat ∧ padScene s p < s.win.totalScenes.toNat := by
  obtain ⟨-, hshows⟩ := (padShowsCell_iff s p).1 h
  simp only [showsAt, Bool.and_eq_true, decide_eq_true_eq] at hshows
  obtain ⟨⟨⟨-, htrack⟩, -⟩, hscene⟩ := hshows
  exact ⟨htrack, hscene⟩

theorem rank_padCell {s : State} {p : Nat} (h : padShowsCell s p = true) :
    (padCell s p).rank = padScene s p * 16384 + padTrack s p := by
  obtain ⟨htrack, hscene⟩ := padTrack_padScene_lt h
  exact rank_ofNat (htrack.trans (BitVec.isLt _)) (hscene.trans (BitVec.isLt _))

theorem isVisible_padCell {s : State} {p : Nat} (h : padShowsCell s p = true) :
    isVisible s.win (padCell s p) = true := by
  obtain ⟨htrack, hscene⟩ := padTrack_padScene_lt h
  obtain ⟨-, hshows⟩ := (padShowsCell_iff s p).1 h
  rw [isVisible, padCell, BitVec.toNat_ofNat, BitVec.toNat_ofNat, Nat.mod_eq_of_lt (htrack.trans (BitVec.isLt _)),
    Nat.mod_eq_of_lt (hscene.trans (BitVec.isLt _))]
  exact hshows

/-- Row-major order of the pads is (scene, track) order of their cells (20_memory R56). -/
theorem rank_padCell_lt {s : State} {p q : Nat} (hp : padShowsCell s p = true) (hq : padShowsCell s q = true)
    (hpq : p < q) : (padCell s p).rank < (padCell s q).rank := by
  rw [rank_padCell hp, rank_padCell hq]
  have htrack : padTrack s p < 16384 := (padTrack_padScene_lt hp).1.trans (BitVec.isLt _)
  obtain hrow | hrow := Nat.lt_or_eq_of_le (Nat.div_le_div_right (c := s.cfg.gridW.toNat) hpq.le)
  · have hscene : padScene s p < padScene s q := Nat.add_lt_add_left hrow _
    omega
  · have hcol : p % s.cfg.gridW.toNat < q % s.cfg.gridW.toNat := by
      have hp' := Nat.div_add_mod p s.cfg.gridW.toNat
      have hq' := Nat.div_add_mod q s.cfg.gridW.toNat
      rw [hrow] at hp'
      omega
    simp only [padScene, padTrack, hrow]
    omega

theorem padIndex_mod {gridW : Septet} {x : Nat} (hx : x < gridW.toNat) (y : Nat) :
    padIndex gridW x y % gridW.toNat = x := by
  rw [padIndex, Nat.mul_add_mod', Nat.mod_eq_of_lt hx]

theorem padIndex_div {gridW : Septet} {x : Nat} (hx : x < gridW.toNat) (y : Nat) :
    padIndex gridW x y / gridW.toNat = y := by
  rw [padIndex, Nat.mul_comm, Nat.mul_add_div (Nat.zero_lt_of_lt hx), Nat.div_eq_of_lt hx, Nat.add_zero]

/-- The pad of a visible cell (20_memory R56). -/
theorem exists_pad_of_isVisible {s : State} {c : CellKey} (hwidth : s.win.width = s.cfg.gridW)
    (hheight : s.win.height = s.cfg.gridH) (h : isVisible s.win c = true) :
    ∃ p, padShowsCell s p = true ∧ padCell s p = c := by
  have hshows := h
  simp only [isVisible, showsAt, Bool.and_eq_true, decide_eq_true_eq, inSpan_iff, hwidth, hheight] at h
  obtain ⟨⟨⟨⟨htrack, htrack'⟩, -⟩, hscene, hscene'⟩, -⟩ := h
  have hx : c.track.toNat - s.win.trackOffset.toNat < s.cfg.gridW.toNat := by omega
  have hy : c.scene.toNat - s.win.sceneOffset.toNat < s.cfg.gridH.toNat := by omega
  have hpadTrack : padTrack s (padIndex s.cfg.gridW (c.track.toNat - s.win.trackOffset.toNat)
      (c.scene.toNat - s.win.sceneOffset.toNat)) = c.track.toNat := by
    rw [padTrack, padIndex_mod hx, Nat.add_sub_cancel' htrack]
  have hpadScene : padScene s (padIndex s.cfg.gridW (c.track.toNat - s.win.trackOffset.toNat)
      (c.scene.toNat - s.win.sceneOffset.toNat)) = c.scene.toNat := by
    rw [padScene, padIndex_div hx, Nat.add_sub_cancel' hscene]
  refine ⟨_, (padShowsCell_iff s _).2 ⟨padIndex_lt hx hy, ?_⟩, ?_⟩
  · rw [hpadTrack, hpadScene]; exact hshows
  · rw [padCell, hpadTrack, hpadScene, BitVec.ofNat_toNat, BitVec.ofNat_toNat]; rfl

/-- The cells the reload asks for, in pad order, are the visible cells in theirs. -/
theorem map_padCell_eq_visibleCells {s : State} (hwidth : s.win.width = s.cfg.gridW)
    (hheight : s.win.height = s.cfg.gridH) (hgeometry : s.cfg.geometryOk = true) :
    ((List.range nPads).filter (padShowsCell s)).map (padCell s) = visibleCells s.win := by
  have hfits : s.cfg.gridW.toNat * s.cfg.gridH.toNat ≤ nPads := by
    simp only [Config.geometryOk, Bool.and_eq_true, decide_eq_true_eq] at hgeometry
    exact hgeometry.2
  refine eq_of_pairwise_rank (List.pairwise_map.2 ?_) (visibleCells_pairwise _) fun c => ?_
  · refine (List.pairwise_lt_range.filter _).imp_of_mem fun hp hq hpq => ?_
    exact rank_padCell_lt (List.mem_filter.1 hp).2 (List.mem_filter.1 hq).2 hpq
  · rw [mem_visibleCells, List.mem_map]
    constructor
    · rintro ⟨p, hp, rfl⟩
      exact isVisible_padCell (List.mem_filter.1 hp).2
    · intro hc
      obtain ⟨p, hp, hpc⟩ := exists_pad_of_isVisible hwidth hheight hc
      have hlt : p < nPads := ((padShowsCell_iff s p).1 hp).1.trans_le hfits
      exact ⟨p, List.mem_filter.2 ⟨List.mem_range.2 hlt, hp⟩, hpc⟩

/-! ## RELOAD (46_grid_sync R203) -/

theorem padShowsCell_reloadPad (s : State) (p : Nat) : padShowsCell (reloadPad s p) = padShowsCell s := by
  obtain ⟨-, -, -, hwin, -, -, -, hcfg, -⟩ := reloadPad_frame s p
  funext q
  simp only [padShowsCell, padTrack, padScene, hwin, hcfg]

theorem padCell_reloadPad (s : State) (p : Nat) : padCell (reloadPad s p) = padCell s := by
  obtain ⟨-, -, -, hwin, -, -, -, hcfg, -⟩ := reloadPad_frame s p
  funext q
  simp only [padCell, padTrack, padScene, hwin, hcfg]

/-- Reloading pads asks for the cells they show, in their order, and draws one answer for each. -/
theorem foldl_reloadPad_out_draws (l : List Nat) (s : State) :
    (l.foldl reloadPad s).out = s.out ++ ((l.filter (padShowsCell s)).map (padCell s)).map .getValue
      ∧ (l.foldl reloadPad s).draws = s.draws + (l.filter (padShowsCell s)).length := by
  induction l generalizing s with
  | nil => simp
  | cons p rest ih =>
    obtain ⟨hout, hdraws⟩ := ih (reloadPad s p)
    rw [padShowsCell_reloadPad, padCell_reloadPad] at hout
    rw [padShowsCell_reloadPad] at hdraws
    rw [List.foldl_cons, hout, hdraws]
    by_cases hp : padShowsCell s p = true
    · simp [reloadPad, hp, Nat.add_assoc, Nat.add_comm 1]
    · simp [reloadPad, hp]

/-- For a window of the configured size the reload asks for the visible cells. -/
theorem reload_out_draws {s : State} (hwidth : s.win.width = s.cfg.gridW) (hheight : s.win.height = s.cfg.gridH)
    (hgeometry : s.cfg.geometryOk = true) :
    (reload s).out = s.out ++ (visibleCells s.win).map .getValue
      ∧ (reload s).draws = s.draws + (visibleCells s.win).length := by
  rw [← map_padCell_eq_visibleCells hwidth hheight hgeometry, List.length_map]
  exact foldl_reloadPad_out_draws _ s

/-! ## The subscription table after the change (R191) -/

theorem read_eraseAll {l : Subs} {c : CellKey} (hc : c ∉ Subs.dom l) (m : Subs) :
    Subs.read (l.foldl (fun m e => Subs.erase m e.1) m) c = Subs.read m c := by
  induction l generalizing m with
  | nil => rfl
  | cons e rest ih =>
    obtain ⟨hne, hrest⟩ := not_or.1 (mt List.mem_cons.2 hc)
    rw [List.foldl_cons, ih hrest, Subs.read_erase_other m e.1 c hne]

theorem read_writeAnswers_of_not_mem {l : List CellKey} {c : CellKey} (hc : c ∉ l) (m : Subs) (n : Nat) :
    Subs.read (writeAnswers m n l) c = Subs.read m c := by
  induction l generalizing m n with
  | nil => rfl
  | cons d rest ih =>
    obtain ⟨hne, hrest⟩ := not_or.1 (mt List.mem_cons.2 hc)
    rw [writeAnswers, ih hrest, Subs.read_write_other m d c _ hne]

/-- The `k`-th of the cells that enter has the `k`-th answer drawn for them. -/
theorem read_writeAnswers_getElem? {l : List CellKey} (hl : l.Nodup) {m : Subs} (hm : Subs.wf m) (n : Nat) {k : Nat}
    {c : CellKey} (hc : l[k]? = some c) : Subs.read (writeAnswers m n l) c = some (Config.subscribeAnswer (n + k)) := by
  induction l generalizing m n k with
  | nil => simp at hc
  | cons d rest ih =>
    obtain ⟨hd, hrest⟩ := List.nodup_cons.1 hl
    cases k with
    | zero =>
      obtain rfl : d = c := by simpa using hc
      rw [writeAnswers, read_writeAnswers_of_not_mem hd, Subs.read_write_same m d _ hm, Nat.add_zero]
    | succ k =>
      rw [writeAnswers, ih hrest (Subs.wf_write d _ hm) (n + 1) hc, Nat.add_right_comm, Nat.add_assoc]

theorem enteredCells_nodup (w : RingWindow) (m : Subs) : (enteredCells w m).Nodup :=
  (nodup_of_pairwise_rank (visibleCells_pairwise w)).filter _

theorem windowMoved_eq (w : RingWindow) (s : State) :
    windowMoved w s = { s with
      win := w
      subs := writeAnswers ((leftCells w s.subs).foldl (fun m e => Subs.erase m e.1) s.subs) s.draws
        (enteredCells w s.subs)
      draws := s.draws + (enteredCells w s.subs).length
      out := s.out ++ [.windowChanged w] ++ (leftCells w s.subs).map (fun e => .unsubscribe e.2)
        ++ (enteredCells w s.subs).map .subscribe } := by
  rw [windowMoved, resubscribe_eq]; rfl

/-- A cell in both sets keeps its handle. -/
theorem read_windowMoved_of_mem {w : RingWindow} {s : State} {c : CellKey} (hc : c ∈ Subs.dom s.subs)
    (hvisible : isVisible w c = true) : Subs.read (windowMoved w s).subs c = Subs.read s.subs c := by
  have hleft : c ∉ Subs.dom (leftCells w s.subs) := fun h => ((mem_dom_leftCells w s.subs c).1 h).2 hvisible
  have hentered : c ∉ enteredCells w s.subs := fun h => ((mem_enteredCells w s.subs c).1 h).2 hc
  rw [windowMoved_eq]
  exact (read_writeAnswers_of_not_mem hentered _ _).trans (read_eraseAll hleft _)

theorem read_windowMoved_of_entered {w : RingWindow} {s : State} (hs : Subs.wf s.subs) {k : Nat} {c : CellKey}
    (hc : (enteredCells w s.subs)[k]? = some c) :
    Subs.read (windowMoved w s).subs c = some (Config.subscribeAnswer (s.draws + k)) := by
  rw [windowMoved_eq]
  exact read_writeAnswers_getElem? (enteredCells_nodup w s.subs) (Subs.wf_eraseAll _ hs) s.draws hc

/-! ## The whole sequence -/

theorem queueGrid_out {s t : State} (h : queueGrid s = .next t) : t.out = s.out ++ tierReport s s.cfg.prioGrid := by
  obtain ⟨queued, -, rfl⟩ := queueGrid_eq_next h
  unfold tierReport
  split <;> simp

/-- WINCHANGE of a record that differs, for a window of the configured size: the subscription table and, element by
element, what it appends and draws. -/
theorem winChange_resubscribes {w : RingWindow} {s t : State} (h : winChange w s = .next t) (hw : w ≠ s.win)
    (hwidth : w.width = s.cfg.gridW) (hheight : w.height = s.cfg.gridH) (hgeometry : s.cfg.geometryOk = true) :
    t.subs = (windowMoved w s).subs
      ∧ t.out = (windowMoved w s).out ++ (visibleCells w).map .getValue ++ tierReport s s.cfg.prioGrid
      ∧ t.draws = (windowMoved w s).draws + (visibleCells w).length := by
  obtain ⟨hsame, -⟩ | ⟨-, hqueue⟩ := winChange_eq_next h
  · exact absurd hsame hw
  obtain ⟨-, -, -, -, hwin, -, -, hcfg, -⟩ := windowMoved_frame w s
  obtain ⟨-, -, -, -, -, -, hsubs, hcfg', -⟩ := reload_frame (windowMoved w s)
  obtain ⟨-, -, -, -, -, -, hsubs', -, -, hdraws', -⟩ := queueGrid_frame hqueue
  obtain ⟨hout, hdraws⟩ := reload_out_draws (s := windowMoved w s) (by rw [hwin, hcfg, hwidth])
    (by rw [hwin, hcfg, hheight]) (by rw [hcfg, hgeometry])
  rw [hwin] at hout hdraws
  have htier : tierReport (reload (windowMoved w s)) (reload (windowMoved w s)).cfg.prioGrid
      = tierReport s s.cfg.prioGrid := by simp only [tierReport, hcfg', hcfg]
  refine ⟨hsubs'.trans hsubs, ?_, hdraws'.trans hdraws⟩
  rw [queueGrid_out hqueue, htier, hout]

/-- Settles O33: the table is that of the state handed to the reload, and the trace is that state's, the reload's and
the report's. -/
theorem windowChangeResubscribes : Obligations.WindowChangeResubscribes := by
  intro s t i hi h hchanged hcanon hwidth hheight hgeometry left entered
  obtain ⟨v, x, y, hvwidth, hvheight, hexec⟩ := exec_windowOp_normalizeAt hi s
  have hwc : winChange (normalizeAt v x y) s = .next t := hexec ▸ h
  obtain ⟨hwin, -⟩ := winChange_frame hwc
  rw [← hwin] at hwc
  have hwidth' : t.win.width = s.cfg.gridW := by rw [hwin, ← hwidth, ← hvwidth]; rfl
  have hheight' : t.win.height = s.cfg.gridH := by rw [hwin, ← hheight, ← hvheight]; rfl
  obtain ⟨hsubs, hout, hdraws⟩ := winChange_resubscribes hwc hchanged hwidth' hheight' hgeometry
  have ⟨hwf, hdom⟩ := windowMoved_subsInv t.win hcanon
  obtain ⟨-, -, -, -, hmoved, -⟩ := windowMoved_frame t.win s
  rw [hmoved] at hdom
  rw [hsubs]
  rw [windowMoved_eq] at hout hdraws
  exact ⟨hout, hwf, hdom, fun c hc hvisible => read_windowMoved_of_mem hc hvisible,
    fun k c hc => read_windowMoved_of_entered hcanon hc, hdraws⟩

end Sys2Proof.Machine
end

section
/-! PROOF. Which events call the state source (45_ring_tracker R193): every meaning but WINCHANGE's is built of pieces
that append no call, and WINCHANGE is only in the window operations. -/

namespace Sys2Proof.Machine

/-- From `s` to `t` the trace has grown by outputs that call nothing (60_exceptions R236). -/
def CallsNoSource (s t : State) : Prop := ∃ new, t.out = s.out ++ new ∧ ∀ o ∈ new, o.isSourceCall = false

/-- If it answers a next state, then without a call. -/
def AnswersWithoutSource (s : State) (r : Res) : Prop := ∀ t, r = .next t → CallsNoSource s t

namespace CallsNoSource

theorem refl (s : State) : CallsNoSource s s := ⟨[], (List.append_nil _).symm, by simp⟩

theorem trans {s t u : State} (hst : CallsNoSource s t) (htu : CallsNoSource t u) : CallsNoSource s u := by
  obtain ⟨new, hout, hnew⟩ := hst
  obtain ⟨new', hout', hnew'⟩ := htu
  refine ⟨new ++ new', by rw [hout', hout, List.append_assoc], fun o ho => ?_⟩
  exact (List.mem_append.1 ho).elim (hnew o) (hnew' o)

theorem emit (s : State) {o : Output} (ho : o.isSourceCall = false) : CallsNoSource s (s.emit o) :=
  ⟨[o], rfl, by simpa using ho⟩

theorem send (cmd : Byte) (payload : Bytes) (s : State) : CallsNoSource s (send cmd payload s) :=
  emit s.nextSeq rfl

/-- EMITALL is a run of SENDs. -/
theorem emitAll (s : State) : CallsNoSource s (emitAll s) :=
  List.foldlRecOn (motive := CallsNoSource s) _ _ (refl s) fun t ht x _ => ht.trans (send x.cmd x.payload t)

theorem dumpStart (reply : Bool) (s : State) : CallsNoSource s (dumpStart reply s) := by
  cases reply with
  | false => exact ⟨[.dumpReq], by simp [Machine.dumpStart], by simp [Output.isSourceCall]⟩
  | true =>
    exact (send s.cfg.cmdHandshakeReply s.cfg.hsReplyPayload s).trans
      ⟨[.dumpReq], rfl, by simp [Output.isSourceCall]⟩

end CallsNoSource

namespace AnswersWithoutSource

theorem next {s t : State} (h : CallsNoSource s t) : AnswersWithoutSource s (.next t) := by
  rintro u ⟨⟩; exact h

theorem refused (s : State) (r : Refusal) : AnswersWithoutSource s (.refused r) := nofun

theorem ite {s : State} {p : Prop} [Decidable p] {r r' : Res} (h : AnswersWithoutSource s r)
    (h' : AnswersWithoutSource s r') : AnswersWithoutSource s (if p then r else r') := by
  split
  · exact h
  · exact h'

theorem after {s t : State} {r : Res} (hst : CallsNoSource s t) (h : AnswersWithoutSource t r) :
    AnswersWithoutSource s r :=
  fun u hu => hst.trans (h u hu)

theorem andThen {s : State} {r : Res} {f : State → Res} (h : AnswersWithoutSource s r)
    (hf : ∀ t, AnswersWithoutSource t (f t)) : AnswersWithoutSource s (andThen r f) := by
  intro u hu
  obtain ⟨t, ht, hft⟩ := (andThen_eq_next r f u).1 hu
  exact (h t ht).trans (hf t u hft)

theorem raise (c : StatusCode) (s : State) : AnswersWithoutSource s (raise c s) := next (.emit s rfl)

theorem giveResult (v : ResultValue) (s : State) : AnswersWithoutSource s (giveResult v s) := next (.emit s rfl)

theorem reportThenResult {p : Prop} [Decidable p] (v : ResultValue) (c : StatusCode) (s : State) :
    AnswersWithoutSource s (if p then Machine.giveResult v (s.emit (.status c)) else Machine.giveResult v s) :=
  ite (after (.emit s rfl) (giveResult v _)) (giveResult v s)

theorem queueSlot (cmd : Byte) (key : Word14) (payload : Bytes) (prio : Byte) (s : State) :
    AnswersWithoutSource s (queueSlot cmd key payload prio s) := by
  refine ite (refused s _) (ite (raise _ s) ?_)
  split
  · exact refused s _
  · exact ite (next (.emit s rfl)) (next (.refl s))

theorem enterConnected (reply : Bool) (s : State) : AnswersWithoutSource s (enterConnected reply s) := by
  rw [enterConnected_eq]
  exact andThen (after (.dumpStart reply s) (queueSlot _ _ _ _ _)) fun t => next (.emitAll t)

theorem route (f : Frame) (s : State) : AnswersWithoutSource s (route f s) :=
  ite (raise _ s) (ite (raise _ s)
    (andThen (ite (next (.refl s)) (enterConnected _ s)) fun t => next (.emit t rfl)))

theorem receive (buf : Bytes) (s : State) : AnswersWithoutSource s (receive buf s) := by
  unfold Machine.receive
  split
  · exact refused s _
  · exact raise _ s
  · exact route _ s

theorem execFdec (buf : Bytes) (s : State) : AnswersWithoutSource s (execFdec buf s) := by
  unfold Machine.execFdec
  split
  · exact refused s _
  · exact giveResult _ s
  · exact giveResult _ s

theorem exec {i : Instr} (hi : ¬ windowOps i) (s : State) : AnswersWithoutSource s (exec i s) := by
  cases i with
  | enc14 | toabs => exact reportThenResult _ _ s
  | dec14 | enccolor24 | encascii | lookup | render | blend => exact giveResult _ s
  | fenc => exact ite (refused s _) (ite (raise _ s) (giveResult _ s))
  | fdec buf => exact execFdec buf s
  | toring => exact ite (giveResult _ s) (giveResult _ s)
  | rxframe | cmdHandshake | cmdHandshakeReply | cmdDisconnect | cmdGrid | cmdVolume => exact receive _ s
  | tickretry => exact ite (next (.send _ _ s)) (next (.refl s))
  | teardown => exact ite (next (.send _ _ ((s.putConn .disconnected).putRetryArmed _))) (next (.refl s))
  | linkinit => exact next (.refl s)
  | queue cmd key payload prio => exact queueSlot cmd key payload prio s
  | flush now => exact ite (next (.emitAll (s.putLastFlush now))) (next (.refl s))
  | forceflush => exact next (.emitAll s)
  | navleft | navright | navup | navdown | follow | settotals | setoverview => exact absurd (by simp [windowOps]) hi
  | cellupdate => exact ite (next (.refl s)) (ite (queueSlot _ _ _ _ (s.putCell _ _)) (next (.refl s)))

end AnswersWithoutSource

/-- Settles O56: no other instruction's meaning holds WINCHANGE. -/
theorem onlyWindowOperationsCallTheSource : Obligations.OnlyWindowOperationsCallTheSource :=
  fun s t _ h hi => AnswersWithoutSource.exec hi s t h

end Sys2Proof.Machine
end

section
/-! PROOF. The grid synchronizer (46_grid_sync): RENDER pad by pad, what RELOAD leaves on each pad, the grid's slot in
the table QUEUEGRID leaves, and CELLUPDATE as the write of one pad or nothing. -/

namespace Sys2Proof.Machine

/-! ## BLEND (R202) -/

theorem blendColor_false (c : Color) : blendColor c false = c := rfl

theorem blendColor_true (c : Color) : blendColor c true = Config.highlight c := rfl

theorem exec_blend (s : State) (r g b : Byte) (inViewport : BitVec 1) :
    exec (.blend r g b inViewport) s
      = .next { s with out := s.out ++ [.result (.color (blendColor ⟨r, g, b⟩ (inViewport == 1)))] } := rfl

/-- Settles O40: the two values of the flag are the two cases of `blendColor`. -/
theorem blendHighlightsOnlyTheViewport : Obligations.BlendHighlightsOnlyTheViewport := by
  refine fun s r g b => ⟨?outside, ?inside⟩
  case outside => rw [exec_blend, show ((0 : BitVec 1) == 1) = false from rfl, blendColor_false]
  case inside => rw [exec_blend, show ((1 : BitVec 1) == 1) = true from rfl, blendColor_true]

/-! ## RENDER (R201) -/

theorem exec_render (s : State) :
    exec .render s = .next { s with out := s.out ++ [.result (.bytes (renderGrid s))] } := rfl

theorem encColor24_eq (c : Color) :
    encColor24 c = [BitVec.ofNat 8 (c.r.toNat / 128), BitVec.ofNat 8 (c.r.toNat % 128),
      BitVec.ofNat 8 (c.g.toNat / 128), BitVec.ofNat 8 (c.g.toNat % 128),
      BitVec.ofNat 8 (c.b.toNat / 128), BitVec.ofNat 8 (c.b.toNat % 128)] := by
  rw [encColor24, enc14Bytes_of_byte, enc14Bytes_of_byte, enc14Bytes_of_byte]; rfl

theorem padColor_eq (s : State) (i : Fin 32) :
    padColor s i = if s.win.overviewMode = true ∧ Config.ovIntersects i.val s.win = true
      then Config.highlight s.grid[i].color else s.grid[i].color := by
  unfold padColor blendColor
  rw [ite_and]

/-- In a concatenation of pieces of one size, the `i`-th stretch of that size is the `i`-th piece. -/
theorem take_drop_flatMap {α β : Type} {f : α → List β} {n : Nat} (hf : ∀ a, (f a).length = n) {l : List α} {i : Nat}
    (hi : i < l.length) : ((l.flatMap f).drop (n * i)).take n = f l[i] := by
  induction l generalizing i with
  | nil => exact absurd hi (Nat.not_lt_zero i)
  | cons a rest ih =>
    rw [List.flatMap_cons]
    cases i with
    | zero => exact List.take_left' (hf a)
    | succ i =>
      rw [Nat.mul_succ, Nat.add_comm, ← List.drop_drop, List.drop_left' (hf a)]
      exact ih (Nat.lt_of_succ_lt_succ hi)

theorem renderGrid_pad (s : State) (i : Fin 32) :
    ((renderGrid s).drop (6 * i.val)).take 6 = encColor24 (padColor s i) := by
  have hpad := take_drop_flatMap (f := fun j => encColor24 (padColor s j)) (l := List.finRange 32)
    (fun _ => encColor24_length _) (i := i.val) (by simp)
  rw [List.getElem_finRange] at hpad
  exact hpad

/-- Settles O39: the bytes are `renderGrid`'s, whose stretch for a pad is the encoding of the pad's colour. -/
theorem renderGivesSixBytesAPad : Obligations.RenderGivesSixBytesAPad := by
  intro s
  refine ⟨renderGrid s, exec_render s, renderGrid_length s, (allSevenBit_iff _).1 (renderGrid_sevenBit s), fun i => ?_⟩
  rw [renderGrid_pad, encColor24_eq, padColor_eq]

/-- RENDER reads the grid and the window, nothing else. -/
theorem renderGrid_congr {s t : State} (hgrid : t.grid = s.grid) (hwin : t.win = s.win) :
    renderGrid t = renderGrid s := by
  simp only [renderGrid, padColor, hgrid, hwin]

/-! ## RELOAD (R203) -/

/-- Which pads show a cell is a matter of the window and the configuration. -/
theorem padShowsCell_congr {s t : State} (hwin : t.win = s.win) (hcfg : t.cfg = s.cfg) :
    padShowsCell t = padShowsCell s := by
  funext p
  simp only [padShowsCell, padTrack, padScene, hwin, hcfg]

theorem padShowsCell_foldl_reloadPad (l : List Nat) (s : State) :
    padShowsCell (l.foldl reloadPad s) = padShowsCell s :=
  List.foldlRecOn (motive := fun t => padShowsCell t = padShowsCell s) l _ rfl
    fun t ht p _ => (padShowsCell_reloadPad t p).trans ht

theorem reloadPad_grid (s : State) (p : Nat) :
    (reloadPad s p).grid
      = s.grid.setIfInBounds p (if padShowsCell s p then Config.getValueAnswer s.draws else GridCell.black) := by
  unfold reloadPad
  split <;> rfl

/-- A reloaded pad holds the answer drawn after those of the pads below it that show a cell, or black. -/
theorem foldl_range_reloadPad_grid (s : State) {p n : Nat} (hp : p < 32) (hpn : p < n) :
    ((List.range n).foldl reloadPad s).grid[p]
      = if padShowsCell s p then
          Config.getValueAnswer (s.draws + ((List.range p).filter (padShowsCell s)).length)
        else GridCell.black := by
  induction n with
  | zero => exact absurd hpn (Nat.not_lt_zero p)
  | succ n ih =>
    obtain ⟨-, hdraws⟩ := foldl_reloadPad_out_draws (List.range n) s
    simp only [List.range_succ, List.foldl_append, List.foldl_cons, List.foldl_nil, reloadPad_grid,
      Vector.getElem_setIfInBounds hp, padShowsCell_foldl_reloadPad, hdraws]
    obtain hlt | rfl := Nat.lt_or_eq_of_le (Nat.le_of_lt_succ hpn)
    · rw [if_neg hlt.ne', ih hlt]
    · rw [if_pos rfl]

theorem reload_grid (s : State) (p : Fin 32) :
    (reload s).grid[p]
      = if padShowsCell s p then
          Config.getValueAnswer (s.draws + ((List.range p).filter (padShowsCell s)).length)
        else GridCell.black :=
  foldl_range_reloadPad_grid s p.isLt p.isLt

/-- Settles O34: the grid left is the reload's, which starts with the draws for the subscriptions made. -/
theorem windowChangeReloadsTheGrid : Obligations.WindowChangeReloadsTheGrid := by
  intro s t i hi h hchanged entered shows p
  obtain ⟨w, hexec⟩ := exec_windowOp hi s
  obtain ⟨-, rfl⟩ | ⟨-, hqueue⟩ := winChange_eq_next (hexec ▸ h)
  · exact absurd rfl hchanged
  obtain ⟨-, -, -, -, hwin, -, -, hcfg, -⟩ := windowMoved_frame w s
  obtain ⟨-, -, -, hwin', -, -, -, hcfg', -⟩ := reload_frame (windowMoved w s)
  obtain ⟨-, -, -, hgrid, hwin'', -, -, hcfg'', -⟩ := queueGrid_frame hqueue
  have hw : t.win = w := hwin''.trans (hwin'.trans hwin)
  have hshows : padShowsCell (windowMoved w s) = shows :=
    (padShowsCell_congr (hwin''.trans hwin') (hcfg''.trans hcfg')).symm
  have hdraws : (windowMoved w s).draws = s.draws + entered.length := by rw [windowMoved_eq, ← hw]; rfl
  rw [hgrid, reload_grid, hshows, hdraws]; rfl

/-! ## The grid's slot (R205) -/

/-- QUEUEGRID, when it answers, leaves the grid's slot as the state it leaves gives it. -/
theorem queueGrid_upserted {s t : State} (h : queueGrid s = .next t) : Upserted (gridSlot t) s.slots t.slots := by
  obtain ⟨-, -, -, hgrid, hwin, -, -, hcfg, -⟩ := queueGrid_frame h
  have hslot : gridSlot t = gridSlot s := by simp only [gridSlot, renderGrid_congr hgrid hwin, hcfg]
  obtain ⟨queued, hupsert, rfl⟩ := queueGrid_eq_next h
  rw [hslot]
  split <;> exact upserted_of_upsertSlot hupsert

theorem filter_sameKey_eq_nil {x : Slot} {l : List Slot} (hl : ∀ z ∈ l, ¬ z.at x.cmd x.key) :
    l.filter (fun z => z.sameKey x) = [] :=
  List.filter_eq_nil_iff.2 fun z hz => mt (sameKey_iff_at x z).1 (hl z hz)

/-- Where no two slots share an address, an upserted slot is the only one of its own. -/
theorem filter_sameKey_of_upserted {x : Slot} {slots queued : List Slot} (h : Upserted x slots queued)
    (hnodup : (slots.map (fun z => (z.cmd, z.key))).Nodup) : queued.filter (fun z => z.sameKey x) = [x] := by
  have hx : x.sameKey x = true := (sameKey_iff_at x x).2 ⟨rfl, rfl⟩
  obtain ⟨pre, y, post, rfl, hpre, ⟨hcmd, hkey⟩, rfl⟩ | ⟨hnew, rfl⟩ := h
  · have hpost : ∀ z ∈ post, ¬ z.at x.cmd x.key := by
      rintro z hz ⟨hzcmd, hzkey⟩
      rw [List.map_append, List.map_cons] at hnodup
      obtain ⟨hy, -⟩ := List.nodup_cons.1 hnodup.of_append_right
      exact hy (List.mem_map.2 ⟨z, hz, by rw [hcmd, hkey, hzcmd, hzkey]⟩)
    rw [List.filter_append, filter_sameKey_eq_nil hpre, List.filter_cons, if_pos hx, filter_sameKey_eq_nil hpost]; rfl
  · rw [List.filter_append, filter_sameKey_eq_nil hnew, List.filter_cons, if_pos hx]; rfl

/-! ## CELLUPDATE (R200) -/

/-- CELLUPDATE heeds a notification of a subscribed cell inside the window, of the configured size (R200, log 15). -/
def heeds (s : State) (track scene : Word14) : Prop :=
  ⟨track, scene⟩ ∈ Subs.dom s.subs
    ∧ s.win.trackOffset.toNat ≤ track.toNat ∧ track.toNat < s.win.trackOffset.toNat + s.cfg.gridW.toNat
    ∧ s.win.sceneOffset.toNat ≤ scene.toNat ∧ scene.toNat < s.win.sceneOffset.toNat + s.cfg.gridH.toNat

/-- The pad CELLUPDATE writes: the cell's place in the window, row by row (20_memory R56). -/
def updatedPad (s : State) (track scene : Word14) : Nat :=
  padIndex s.cfg.gridW (track.toNat - s.win.trackOffset.toNat) (scene.toNat - s.win.sceneOffset.toNat)

theorem updatedPad_lt {s : State} {track scene : Word14} (hgeometry : s.cfg.geometryOk = true)
    (h : heeds s track scene) : updatedPad s track scene < 32 := by
  obtain ⟨-, htrack, htrack', hscene, hscene'⟩ := h
  simp only [Config.geometryOk, Bool.and_eq_true, decide_eq_true_eq] at hgeometry
  obtain ⟨-, hfits⟩ := hgeometry
  exact (padIndex_lt (Nat.sub_lt_left_of_lt_add htrack htrack') (Nat.sub_lt_left_of_lt_add hscene hscene')).trans_le hfits

theorem exec_cellupdate_of_heeds {s : State} {track scene : Word14} (h : heeds s track scene) (r g b : Byte)
    (occ : BitVec 1) :
    exec (.cellupdate track scene r g b occ) s
      = queueGrid (s.putCell (updatedPad s track scene) ⟨r, g, b, occ == 1⟩) := by
  obtain ⟨hsub, htrack, htrack', hscene, hscene'⟩ := h
  exact execCellupdate_of_written r g b occ hsub ((inSpan_iff _ _ _).2 ⟨htrack, htrack'⟩)
    ((inSpan_iff _ _ _).2 ⟨hscene, hscene'⟩)

theorem exec_cellupdate_of_not_heeds {s : State} {track scene : Word14} (h : ¬ heeds s track scene) (r g b : Byte)
    (occ : BitVec 1) : exec (.cellupdate track scene r g b occ) s = .next s := by
  by_cases hsub : (s.subs.read ⟨track, scene⟩).isNone = true
  · exact if_pos hsub
  · have hdom : ⟨track, scene⟩ ∈ Subs.dom s.subs := by
      rw [← Subs.read_isSome, Option.isSome_iff_ne_none]
      simpa using hsub
    refine (if_neg hsub).trans (if_neg fun hin => h ?_)
    simp only [Bool.and_eq_true, inSpan_iff] at hin
    obtain ⟨⟨htrack, htrack'⟩, hscene, hscene'⟩ := hin
    exact ⟨hdom, htrack, htrack', hscene, hscene'⟩

/-- Settles O38: a notification that is heeded writes its pad and queues the grid, and there are no others. -/
theorem cellupdateWritesOnePad : Obligations.CellupdateWritesOnePad := by
  intro s track scene r g b occ hgeometry inside pad
  refine ⟨fun hheeds hroom => ?written, fun hignored => exec_cellupdate_of_not_heeds hignored r g b occ⟩
  have hpad : pad < 32 := updatedPad_lt hgeometry hheeds
  obtain ⟨queued, hupserted, hqueue⟩ := queueGrid_upserts (s := s.putCell pad ⟨r, g, b, occ == 1⟩) hroom
  refine ⟨s.grid.setIfInBounds pad ⟨r, g, b, occ == 1⟩, queued, ?_, fun q hq => ?_, hupserted,
    (exec_cellupdate_of_heeds hheeds r g b occ).trans hqueue⟩
  · exact Vector.getElem?_setIfInBounds_self_of_lt hpad
  · exact Vector.getElem?_setIfInBounds_ne hq.symm

/-! ## Grid changes (R204) -/

/-- A window operation or CELLUPDATE, when it answers, has done nothing or queued the grid over the slots of `s`. -/
theorem exec_gridChange {i : Instr} {s t : State}
    (hi : windowOps i ∨ ∃ track scene r g b occ, i = .cellupdate track scene r g b occ) (h : exec i s = .next t) :
    t = s ∨ ∃ u, u.slots = s.slots ∧ queueGrid u = .next t := by
  obtain hi | ⟨track, scene, r, g, b, occ, rfl⟩ := hi
  · obtain ⟨w, hexec⟩ := exec_windowOp hi s
    obtain ⟨-, rfl⟩ | ⟨-, hqueue⟩ := winChange_eq_next (hexec ▸ h)
    · exact .inl rfl
    · obtain ⟨-, -, -, -, -, hslots, -⟩ := windowMoved_frame w s
      obtain ⟨-, -, -, -, hslots', -⟩ := reload_frame (windowMoved w s)
      exact .inr ⟨_, hslots'.trans hslots, hqueue⟩
  · by_cases hheeds : heeds s track scene
    · exact .inr ⟨s.putCell _ _, rfl, (exec_cellupdate_of_heeds hheeds r g b occ).symm.trans h⟩
    · rw [exec_cellupdate_of_not_heeds hheeds] at h
      cases h
      exact .inl rfl

/-- Settles O35: a change excludes the events that do nothing, and QUEUEGRID upserts what RENDER gives afterwards. -/
theorem gridChangesQueueTheWholeGrid : Obligations.GridChangesQueueTheWholeGrid := by
  intro s t i h hi hchanged
  obtain rfl | ⟨u, hslots, hqueue⟩ := exec_gridChange hi h
  · exact absurd hchanged (by simp)
  have hupserted : Upserted (gridSlot t) s.slots t.slots := hslots ▸ queueGrid_upserted hqueue
  exact ⟨renderGrid t, exec_render t, hupserted, filter_sameKey_of_upserted hupserted⟩

end Sys2Proof.Machine
end

section
/-! PROOF. The exceptions (60_exceptions): with nothing presented the state is held, and an event that reports an error
ends there. Every operation that does more than report appends no report but the clamp's. -/

namespace Sys2Proof.Machine

/-! ## Between events (R240) -/

theorem takeItem_of_port_nil {s : State} (hport : s.port = []) : takeItem s = none := by
  simp only [takeItem, hport]

/-- Settles O42: there is no item to take. -/
theorem stepHoldsTheStateBetweenEvents : Obligations.StepHoldsTheStateBetweenEvents := by
  intro s hport
  simp only [step, takeItem_of_port_nil hport]

/-! ## Appending no error (R222) -/

/-- From `s` to `t` the trace has grown, and the only condition reported in that is the clamp, which is no error. -/
def ReportsNoError (s t : State) : Prop :=
  ∃ new, t.out = s.out ++ new ∧ ∀ c, .status c ∈ new → c = .rangeClamped

namespace ReportsNoError

theorem refl (s : State) : ReportsNoError s s := ⟨[], (List.append_nil _).symm, nofun⟩

theorem trans {s t u : State} (hst : ReportsNoError s t) (htu : ReportsNoError t u) : ReportsNoError s u := by
  obtain ⟨new, hout, hnew⟩ := hst
  obtain ⟨new', hout', hnew'⟩ := htu
  refine ⟨new ++ new', by rw [hout', hout, List.append_assoc], fun c hc => ?_⟩
  exact (List.mem_append.1 hc).elim (hnew c) (hnew' c)

theorem emit (s : State) {o : Output} (ho : ∀ c, .status c = o → c = .rangeClamped) : ReportsNoError s (s.emit o) :=
  ⟨[o], rfl, fun c hc => ho c (List.mem_singleton.1 hc)⟩

theorem emitResult (v : ResultValue) (s : State) : ReportsNoError s (s.emit (.result v)) := emit s nofun

theorem emitClamp (s : State) : ReportsNoError s (s.emit (.status .rangeClamped)) :=
  emit s fun _ hc => Output.status.inj hc

theorem foldl {α : Type} {f : State → α → State} (hf : ∀ t a, ReportsNoError t (f t a)) (l : List α) (s : State) :
    ReportsNoError s (l.foldl f s) :=
  List.foldlRecOn (motive := ReportsNoError s) l f (refl s) fun t ht a _ => ht.trans (hf t a)

theorem send (cmd : Byte) (payload : Bytes) (s : State) : ReportsNoError s (send cmd payload s) := emit s.nextSeq nofun

theorem emitAll (s : State) : ReportsNoError s (emitAll s) :=
  foldl (fun t (x : Slot) => send x.cmd x.payload t) (emitOrder s.slots) (s.putSlots [])

theorem reloadPad (s : State) (p : Nat) : ReportsNoError s (reloadPad s p) := by
  unfold Machine.reloadPad
  split
  · exact emit s nofun
  · exact refl s

theorem unsubscribeCell (s : State) (e : CellKey × Handle) : ReportsNoError s (unsubscribeCell s e) :=
  emit s (o := .unsubscribe e.2) nofun

theorem subscribeCell (s : State) (c : CellKey) : ReportsNoError s (subscribeCell s c) :=
  emit s (o := .subscribe c) nofun

theorem resubscribe (s : State) : ReportsNoError s (resubscribe s) :=
  (foldl unsubscribeCell _ s).trans (foldl subscribeCell _ _)

theorem windowMoved (w : RingWindow) (s : State) : ReportsNoError s (windowMoved w s) :=
  (emit (s.putWin w) (o := .windowChanged w) nofun).trans (resubscribe _)

/-- The reply, where there is one, then the announcement of the dump (43_handshake R152). -/
theorem dumpStart (reply : Bool) (s : State) : ReportsNoError s (dumpStart reply s) := by
  cases reply with
  | false => exact ⟨[.dumpReq], by simp [Machine.dumpStart], by simp⟩
  | true => exact (send s.cfg.cmdHandshakeReply s.cfg.hsReplyPayload s).trans ⟨[.dumpReq], rfl, by simp⟩

end ReportsNoError

/-- The grid always fits a frame, so QUEUEGRID is never `Oversize`. -/
theorem queueGrid_reportsNoError {s t : State} (h : queueGrid s = .next t) : ReportsNoError s t := by
  obtain ⟨-, -, -, -, -, -, -, -, -, -, hout | hout⟩ := queueGrid_frame h
  · exact ⟨[], by rw [hout, List.append_nil], nofun⟩
  · exact ⟨[.status .rangeClamped], hout, by simp⟩

theorem winChange_reportsNoError {w : RingWindow} {s t : State} (h : winChange w s = .next t) :
    ReportsNoError s t := by
  obtain ⟨-, rfl⟩ | ⟨-, hqueue⟩ := winChange_eq_next h
  · exact .refl _
  · exact (ReportsNoError.windowMoved w s).trans
      ((ReportsNoError.foldl .reloadPad _ _).trans (queueGrid_reportsNoError hqueue))

theorem connectOn_reportsNoError {f : Frame} {s t : State} (h : connectOn f s = .next t) : ReportsNoError s t := by
  obtain ⟨-, rfl⟩ | ⟨-, henter⟩ := connectOn_eq_next h
  · exact .refl _
  · obtain ⟨s3, hqueue, rfl⟩ := enterConnected_eq_next henter
    exact (ReportsNoError.dumpStart _ s).trans ((queueGrid_reportsNoError hqueue).trans (.emitAll s3))

theorem giveResult_reportsNoError {v : ResultValue} {s t : State} (h : giveResult v s = .next t) :
    ReportsNoError s t :=
  (giveResult_eq_next v s t).1 h ▸ .emitResult v s

/-- ENC14 and TOABS report a clamp on one path. -/
theorem clampThenResult_reportsNoError {p : Prop} [Decidable p] {v : ResultValue} {s t : State}
    (h : (if p then giveResult v (s.emit (.status .rangeClamped)) else giveResult v s) = .next t) :
    ReportsNoError s t := by
  split at h
  · exact (ReportsNoError.emitClamp s).trans (giveResult_reportsNoError h)
  · exact giveResult_reportsNoError h

/-- An event that does something or finds nothing to do. -/
theorem ite_next_reportsNoError {p : Prop} [Decidable p] {s t u : State} (hu : ReportsNoError s u)
    (h : (if p then .next u else .next s : Res) = .next t) : ReportsNoError s t := by
  split at h <;> cases h
  · exact hu
  · exact .refl s

theorem execToring_reportsNoError {track scene : Word14} {s t : State} (h : execToring track scene s = .next t) :
    ReportsNoError s t := by
  unfold execToring at h
  split at h <;> exact giveResult_reportsNoError h

theorem execCellupdate_reportsNoError {track scene : Word14} {r g b : Byte} {occ : BitVec 1} {s t : State}
    (h : execCellupdate track scene r g b occ s = .next t) : ReportsNoError s t := by
  unfold execCellupdate at h
  split at h
  · cases h; exact .refl s
  · split at h
    · exact queueGrid_reportsNoError (s := s.putCell _ _) h
    · cases h; exact .refl s

/-! ## An error is all an event does (R228) -/

/-- The event has ended in a report and done nothing else, or it has reported no error. -/
def ErrorStandsAlone (s t : State) : Prop := (∃ c, t = s.emit (.status c)) ∨ ReportsNoError s t

theorem execFenc_errorStandsAlone {cmd : Byte} {seq : Septet} {payload : Bytes} {s t : State}
    (h : execFenc cmd seq payload s = .next t) : ErrorStandsAlone s t := by
  unfold execFenc at h
  split at h
  · cases h
  · split at h
    · exact .inl ⟨.oversize, (raise_eq_next _ s t).1 h⟩
    · exact .inr (giveResult_reportsNoError h)

theorem queueSlot_errorStandsAlone {cmd : Byte} {key : Word14} {payload : Bytes} {prio : Byte} {s t : State}
    (h : queueSlot cmd key payload prio s = .next t) : ErrorStandsAlone s t := by
  obtain ⟨-, ⟨-, rfl⟩ | ⟨-, l, -, rfl⟩⟩ := queueSlot_eq_next h
  · exact .inl ⟨.oversize, rfl⟩
  · right
    split
    · exact .emitClamp (s.putSlots l)
    · exact .refl s

/-- A buffer is dropped with its report before the link acts on it, or it is dispatched (42_registry_router R138). -/
theorem receive_errorStandsAlone {buf : Bytes} {s t : State} (h : receive buf s = .next t) : ErrorStandsAlone s t := by
  obtain ⟨e, -, rfl⟩ | ⟨f, -, hroute⟩ := receive_eq_next h
  · exact .inl ⟨e.status, rfl⟩
  · obtain ⟨-, rfl⟩ | ⟨-, -, rfl⟩ | ⟨s1, hconnect, rfl⟩ := route_eq_next hroute
    · exact .inl ⟨.payloadShapeError, rfl⟩
    · exact .inl ⟨.wrongDirection, rfl⟩
    · exact .inr ((connectOn_reportsNoError hconnect).trans (.emit s1 nofun))

/-- `Effect.outputOnly` does not say what is appended, so the split is over the instructions. -/
theorem exec_errorStandsAlone {i : Instr} {s t : State} (h : exec i s = .next t) : ErrorStandsAlone s t := by
  cases i with
  | enc14 | toabs => exact .inr (clampThenResult_reportsNoError h)
  | dec14 | enccolor24 | encascii | lookup | render | blend => exact .inr (giveResult_reportsNoError h)
  | fenc => exact execFenc_errorStandsAlone h
  | fdec =>
    obtain ⟨v, rfl⟩ := exec_fdec_eq_next h
    exact .inr (.emitResult v s)
  | toring => exact .inr (execToring_reportsNoError h)
  | rxframe | cmdHandshake | cmdHandshakeReply | cmdDisconnect | cmdGrid | cmdVolume => exact receive_errorStandsAlone h
  | tickretry => exact .inr (ite_next_reportsNoError (.send _ _ s) h)
  | teardown =>
    exact .inr
      (ite_next_reportsNoError (.send _ _ ((s.putConn .disconnected).putRetryArmed s.cfg.rearmOnTeardown)) h)
  | linkinit => cases h; exact .inr (.refl s)
  | queue => exact queueSlot_errorStandsAlone h
  | flush now => exact .inr (ite_next_reportsNoError (.emitAll (s.putLastFlush now)) h)
  | forceflush => cases h; exact .inr (.emitAll s)
  | navleft | navright | navup | navdown | follow | settotals | setoverview => exact .inr (winChange_reportsNoError h)
  | cellupdate => exact .inr (execCellupdate_reportsNoError h)

/-- Settles O57: an event that reports an error is not one that reports none, so it ended in a report, and what it
appended is that report. -/
theorem errorsLeaveTheStateAsItWas : Obligations.ErrorsLeaveTheStateAsItWas := by
  intro s t i new c h hout hmem hc
  obtain ⟨c', rfl⟩ | ⟨new', hout', hnew'⟩ := exec_errorStandsAlone h
  · obtain rfl : [.status c'] = new := List.append_cancel_left hout
    obtain rfl : c = c' := Output.status.inj (List.mem_singleton.1 hmem)
    rfl
  · obtain rfl : new = new' := List.append_cancel_left (hout.symm.trans hout')
    exact absurd (hnew' c hmem) hc

end Sys2Proof.Machine
end

section
/-! PROOF. Completion (70_reset_and_hazards R266, R267): every meaning answers a next state but for the three refusals
of the spec, and each duty of the surrounding software rules one of them out. -/

namespace Sys2Proof.Machine

/-- The answer is a next state. -/
def Completes (r : Res) : Prop := ∃ t, r = .next t

namespace Completes

theorem next (s : State) : Completes (.next s) := ⟨s, rfl⟩

theorem ite {p : Prop} [Decidable p] {r r' : Res} (h : Completes r) (h' : Completes r') :
    Completes (if p then r else r') := by
  split
  · exact h
  · exact h'

theorem andThen {r : Res} {f : State → Res} (h : Completes r) (hf : ∀ t, Completes (f t)) :
    Completes (andThen r f) := by
  obtain ⟨t, rfl⟩ := h
  exact hf t

theorem giveResult (v : ResultValue) (s : State) : Completes (giveResult v s) := next _

theorem raise (c : StatusCode) (s : State) : Completes (raise c s) := next _

end Completes

/-! ## Seven-bit payloads (41_framecodec R120, 44_coalescer R165) -/

theorem exec_fenc_completes (s : State) (cmd : Byte) (seq : Septet) {payload : Bytes}
    (h : ∀ b ∈ payload, b.toNat ≤ 127) : Completes (exec (.fenc cmd seq payload) s) := by
  have h7 : allSevenBit payload = true := (allSevenBit_iff payload).2 h
  by_cases hlen : lenMax < payload.length
  · exact ⟨_, exec_fenc_of_oversize s cmd seq h7 hlen⟩
  · exact ⟨_, exec_fenc_of_payloadOk s cmd seq ((payloadOk_iff payload).2 ⟨Nat.le_of_not_lt hlen, h⟩)⟩

theorem queueSlot_completes {cmd : Byte} {key : Word14} {payload : Bytes} (prio : Byte) {s : State}
    (h : ∀ b ∈ payload, b.toNat ≤ 127) (hroom : s.roomFor cmd key) :
    Completes (queueSlot cmd key payload prio s) := by
  by_cases hlen : lenMax < payload.length
  · exact ⟨_, queueSlot_of_oversize cmd key prio s ((allSevenBit_iff payload).2 h) hlen⟩
  · obtain ⟨_, -, hqueue⟩ := queueSlot_upserts prio ((payloadOk_iff payload).2 ⟨Nat.le_of_not_lt hlen, h⟩) hroom
    exact ⟨_, hqueue⟩

/-! ## Seven-bit buffers (30_encoding R101) -/

/-- A buffer of fewer than ten bytes is `Truncated` whatever its bytes; in a longer one the duty covers every position
R121's precondition names, and FDEC answers there. -/
theorem fdec_ne_notSevenBit {buf : Bytes}
    (h : ∀ k b, buf[k]? = some b → 5 ≤ k → k + 1 < buf.length → b.toNat ≤ 127) : fdec buf ≠ .notSevenBit := by
  intro hrefused
  by_cases hshort : buf.length < 10
  · rw [fdec_of_short hshort] at hrefused; cases hrefused
  · have hanswer := fdecChecksInOrder State.reset buf fun k b hb h5 hk => h k b hb h5 (by omega)
    rw [(exec_of_notSevenBit State.reset hrefused).1] at hanswer
    cases hanswer

theorem exec_fdec_completes {buf : Bytes} (s : State) (h : fdec buf ≠ .notSevenBit) :
    Completes (exec (.fdec buf) s) := by
  cases hfdec : fdec buf with
  | frame f => exact ⟨_, exec_fdec_of_frame s hfdec⟩
  | error e => exact ⟨_, exec_fdec_of_error s hfdec⟩
  | notSevenBit => exact absurd hfdec h

/-! ## Receptions and the grid frame (43_handshake R152, 46_grid_sync R204) -/

theorem enterConnected_completes (reply : Bool) {s : State} (hroom : s.roomForGrid) :
    Completes (enterConnected reply s) := by
  rw [enterConnected_eq]
  exact .andThen (queueGrid_completes (s := dumpStart reply s) hroom) fun t => .next (emitAll t)

/-- The router drops a frame with a report, or lets it act on the link and be dispatched (42_registry_router R138). -/
theorem route_completes (f : Frame) {s : State} (hroom : s.roomForGrid) : Completes (route f s) :=
  .ite (.raise _ s) (.ite (.raise _ s)
    (.andThen (.ite (.next s) (enterConnected_completes _ hroom)) fun t => .next (t.emit _)))

theorem receive_completes {buf : Bytes} {s : State} (h : fdec buf ≠ .notSevenBit) (hroom : s.roomForGrid) :
    Completes (receive buf s) := by
  unfold receive
  split
  · contradiction
  · exact .raise _ s
  · exact route_completes _ hroom

theorem receive_frameBytes_completes (cmd : Byte) (seq : Septet) {payload : Bytes} {s : State}
    (hp : payloadOk payload = true) (hroom : s.roomForGrid) : Completes (receive (frameBytes cmd seq payload) s) := by
  rw [receive_frameBytes cmd seq s hp]
  exact route_completes _ hroom

theorem exec_windowOp_completes {i : Instr} (hi : windowOps i) {s : State} (hroom : s.roomForGrid) :
    Completes (exec i s) := by
  obtain ⟨w, hw⟩ := exec_windowOp hi s
  obtain ⟨t, ht, -⟩ := winChange_completes w hroom
  exact ⟨t, hw.trans ht⟩

/-- Writing a cell takes no slot, so the grid frame still has its room. -/
theorem exec_cellupdate_completes (track scene : Word14) (r g b : Byte) (occ : BitVec 1) {s : State}
    (hroom : s.roomForGrid) : Completes (exec (.cellupdate track scene r g b occ) s) :=
  .ite (.next s) (.ite (queueGrid_completes (s := s.putCell _ _) hroom) (.next s))

/-- Settles O58: no meaning faults, and the instructions that can be refused are those a duty speaks of. -/
theorem everyEventCompletesUnderTheHostsDuties : Obligations.EveryEventCompletesUnderTheHostsDuties := by
  intro s i hwf hroom hfenc hqueue hbuf
  cases i with
  | enc14 | toabs => exact Completes.ite (.giveResult _ _) (.giveResult _ s)
  | dec14 | enccolor24 | encascii | lookup | render | blend => exact Completes.giveResult _ s
  | toring => exact Completes.ite (.giveResult _ s) (.giveResult _ s)
  | fenc cmd seq payload => exact exec_fenc_completes s cmd seq (hfenc cmd seq payload rfl)
  | fdec buf => exact exec_fdec_completes s (fdec_ne_notSevenBit (hbuf buf (.inl rfl)))
  | rxframe buf => exact receive_completes (fdec_ne_notSevenBit (hbuf buf (.inr rfl))) hroom
  | cmdHandshake | cmdHandshakeReply | cmdDisconnect | cmdGrid | cmdVolume =>
    exact receive_frameBytes_completes _ _ hwf hroom
  | tickretry | teardown | flush => exact Completes.ite (.next _) (.next s)
  | linkinit | forceflush => exact Completes.next _
  | queue cmd key payload prio =>
    obtain ⟨hpayload, hslot⟩ := hqueue cmd key payload prio rfl
    exact queueSlot_completes prio hpayload hslot
  | navleft | navright | navup | navdown | follow | settotals | setoverview =>
    exact exec_windowOp_completes (by simp [windowOps]) hroom
  | cellupdate track scene r g b occ => exact exec_cellupdate_completes track scene r g b occ hroom

end Sys2Proof.Machine
end
